-- ==== Sys2Proof/Word.lean ====
section
/-! DEFINITION. The words of the block: bytes, line levels and the three values of the receive state. -/

namespace Sys2Proof

/-- An 8-bit value: `shift_reg`, `rx_byte` (R30) and an operation word (R98). -/
abbrev Byte := BitVec 8

/-- A logic level of the RX line, one bit: `true` is 1, the electrically high level, `false` is 0 (R38). -/
abbrev Level := Bool

/-- The receive state `rx_state`, "one of Idle, Receiving, ByteReady" (R31). -/
inductive RxState
  /-- Waiting for a start-bit edge. -/
  | idle
  /-- Mid-byte. -/
  | receiving
  /-- One full byte is available in the holding register. -/
  | byteReady
deriving DecidableEq, Repr, Inhabited

end Sys2Proof
end

