-- ==== Sys2Proof/Config.lean ====
section
/-! DEFINITION. What an implementation of the block fixes: the constants of R9, the parameters of R10, and the
free values of R15 and R182. -/

namespace Sys2Proof

/-- `DATA_BITS` of R9: samples per byte. -/
def Config.dataBits : Nat := 8

/-- `BAUD` of R9: the nominal line rate the tick counts are derived for. -/
def Config.nominalBaud : Nat := 9600

/-- The value of `bit_cnt` at which the sample taken is the eighth, `DATA_BITS - 1` (R32, R154). -/
def Config.lastSample : BitVec 3 := 7

/-- The parameters "the model takes each as an argument" (R10). They are constants of a build (R41, R153), not state
(R50): the machine carries them in one field of its state that no operation writes (log entry 1). -/
structure Params where
  /-- `F_CPU`, the CPU clock in Hz; it only names the length of a tick. -/
  fCpu : Nat
  /-- `PRESCALER`, the timer prescaler; it only names the length of a tick. -/
  prescaler : Nat
  /-- `BIT_TICKS`, timer ticks in one bit period. -/
  bitTicks : Nat
  /-- `HALF_BIT_TICKS`, timer ticks in half a bit period. -/
  halfBitTicks : Nat
  /-- `TMR_W`, the width in bits of the timer counter and compare value. -/
  tmrW : Nat
  /-- `START_LEVEL`, the level a start transition goes to. -/
  startLevel : Level
  /-- `SAMPLE_INVERT`, whether a sampled level is inverted before it enters the byte. -/
  sampleInvert : Bool
  /-- `LAT_MAX`, the largest number of ticks a handler may be delayed once deliverable. -/
  latMax : Nat
deriving DecidableEq, Repr

/-- The parameter values of `State.reset`: the defaults of R10 where it gives one, the values of the spec's own
vectors (95_test_vectors.md) for `BIT_TICKS` and `TMR_W`, and for `F_CPU` and `PRESCALER` a pair that makes
`BIT_TICKS` = `F_CPU` / (9600 × `PRESCALER`). DESIGN CHOICE, unsafe: log entry 2. -/
def Config.resetParams : Params where
  fCpu := 38400
  prescaler := 1
  bitTicks := 4
  halfBitTicks := 2
  tmrW := 8
  startLevel := true
  sampleInvert := false
  latMax := 0

/-- `draw_8()` of R15, the `n`th draw of a run: an 8-bit value under no law (R182, U1). A free value: nothing
constrains it, and two draws need not agree (log entry 12). -/
opaque Config.draw8 : Nat → Byte

/-- The `n`th draw of a value of `rx_state`, for a read before the first `INIT` (R180, R231). A free value
(log entry 12). -/
opaque Config.drawRxState : Nat → RxState

end Sys2Proof
end

