-- ==== Sys2Proof/Syntax.lean ====
section
/-! DEFINITION. The eight operations of the block (R99, R123), one constructor per row of spec/opcode_table.json,
and the reasons for which a word spells none of them. -/

namespace Sys2Proof

/-- The operations, in the order of their operation codes (R99). There are no others (R123). -/
inductive Instr
  /-- `INIT`: create the receive state (R120). -/
  | init
  /-- `LINE v`: the environment puts the RX line at level `v` (R131). -/
  | line (v : Level)
  /-- `ADV`: one timer tick passes (R151). -/
  | adv
  /-- `EDGE`: the start-detect handler (R133). -/
  | edge
  /-- `TICK`: the bit-sample handler (R154). -/
  | tick
  /-- `RDST`: the consumer reads the receive state (R180). -/
  | rdst
  /-- `RDBYTE`: the consumer reads the holding register (R182). -/
  | rdbyte
  /-- `CLR`: the consumer releases the holding register (R184). -/
  | clr
deriving DecidableEq, Repr

/-- Why a word spells no operation (R100). -/
inductive DecodeReject
  /-- `op` is in 0x8..0xF. -/
  | reservedCode
  /-- `word[3:1]` is not 0. -/
  | zeroBitsSet
  /-- `word[0]` is 1 and `op` is not that of `LINE`. -/
  | strayOperand
  /-- There is no word to decode. -/
  | noWord
deriving DecidableEq, Repr

end Sys2Proof
end

