-- ==== Sys2Proof/WellFormed.lean ====
section
/-! DEFINITION. The checks on what a run is given: an operation word (R98, R100) and the parameters (R10).
An `Instr` needs no check of its own: its one operand is a `Level`, so every term of it is an operation of R99. -/

namespace Sys2Proof

/-- `op`, bits 7:4 of the word, is one of the eight operation codes 0x0..0x7 (R99, R100). -/
def wordOpAssigned (w : Byte) : Bool := decide (w.toNat / 16 < 8)

/-- `zero`, bits 3:1 of the word, is 0b000 (R98, R100). -/
def wordZeroClear (w : Byte) : Bool := decide (w.toNat / 2 % 8 = 0)

/-- `v`, bit 0 of the word, is 0 for every operation other than `LINE` (R98, R100). -/
def wordOperandAllowed (w : Byte) : Bool := decide (w.toNat % 2 = 0) || decide (w.toNat / 16 = 1)

/-- The word spells an operation: none of the three cases of R100 holds. -/
def wordWellFormed (w : Byte) : Bool :=
  wordOpAssigned w && wordZeroClear w && wordOperandAllowed w

/-- The constraints of R10; outside them "the model is not instantiated" (U12). -/
def Params.wellFormed (p : Params) : Bool :=
  decide (0 < p.fCpu) && decide (0 < p.prescaler) && decide (2 ≤ p.bitTicks) &&
    decide (1 ≤ p.halfBitTicks) && decide (p.halfBitTicks < p.bitTicks) &&
    decide (0 < p.tmrW) && decide (p.bitTicks + p.halfBitTicks < 2 ^ p.tmrW) &&
    decide (p.latMax < p.halfBitTicks)

end Sys2Proof
end

