-- ==== Sys2Proof/Decode.lean ====
section
/-! DEFINITION. Decoding an operation word and a whole trace of them (R98 to R100), the encoder (R99), and the
entry point the host asks with. -/

namespace Sys2Proof

/-- The field `op` of an operation word, bits 7:4 (R98). -/
def opField (w : Byte) : BitVec 4 := w.extractLsb' 4 4

/-- The field `zero` of an operation word, bits 3:1 (R98). -/
def zeroField (w : Byte) : BitVec 3 := w.extractLsb' 1 3

/-- The field `v` of an operation word, bit 0 (R98). -/
def operandField (w : Byte) : Level := w.getLsbD 0

/-- The operation with code `op` and operand `v`, for the eight assigned codes (R99). -/
def operationOf (op : Nat) (v : Level) : Option Instr :=
  match op with
  | 0 => some .init
  | 1 => some (.line v)
  | 2 => some .adv
  | 3 => some .edge
  | 4 => some .tick
  | 5 => some .rdst
  | 6 => some .rdbyte
  | 7 => some .clr
  | _ => none

/-- The total decoder of R100: "A decoder reads op = word[7:4], v = word[0]" (R99); a reserved word is rejected by
the first of R100's three cases that it meets, in R100's order (log entry 17). -/
def decode (w : Byte) : Except DecodeReject Instr :=
  match operationOf (opField w).toNat (operandField w) with
  | none => .error .reservedCode
  | some i =>
    if zeroField w ≠ 0 then .error .zeroBitsSet
    else if operandField w && opField w ≠ 1 then .error .strayOperand
    else .ok i

/-- The first operation of a byte string and the bytes after it: every operation is one byte (R98). -/
def decodeBytes (bytes : List Byte) : Except DecodeReject (Instr × List Byte) :=
  match bytes with
  | [] => .error .noWord
  | w :: rest =>
    match decode w with
    | .error e => .error e
    | .ok i => .ok (i, rest)

/-- The operations a trace spells, or the reason the first invalid word gives: "A trace containing an invalid word
is refused as a whole" (R100). -/
def decodeTrace (words : List Byte) : Except DecodeReject (List Instr) :=
  match words with
  | [] => .ok []
  | w :: rest =>
    match decode w with
    | .error e => .error e
    | .ok i =>
      match decodeTrace rest with
      | .error e => .error e
      | .ok ops => .ok (i :: ops)

/-- The operation code of R99. -/
def Instr.op : Instr → BitVec 4
  | .init => 0
  | .line _ => 1
  | .adv => 2
  | .edge => 3
  | .tick => 4
  | .rdst => 5
  | .rdbyte => 6
  | .clr => 7

/-- The operand bit of R98: `v` of `LINE`, 0 for every other operation. -/
def Instr.operandBit : Instr → Level
  | .line v => v
  | .init | .adv | .edge | .tick | .rdst | .rdbyte | .clr => false

/-- The operation word of R98: `op` in bits 7:4, 0b000 in bits 3:1, `v` in bit 0. -/
def encode (i : Instr) : Byte :=
  (i.op ++ (0 : BitVec 3)) ++ BitVec.ofBool i.operandBit

/-- The instruction the decoder reads from a table row's `nbits` bits `w`, laid out as the byte string of a trace.
Every row is one byte wide, and bits the row does not give are 0. -/
def decodeTableWord (nbits w : Nat) : Option Instr :=
  match decodeBytes [BitVec.ofNat 8 (w % 2 ^ nbits)] with
  | .ok (i, _) => some i
  | .error _ => none

end Sys2Proof
end

