-- ==== Sys2Proof/Machine/State.lean ====
section
/-! DEFINITION. The state of the machine: the eleven values of R30, the parameters of R10, and the model's own
bookkeeping of a run; the reasons a step can stop; the state after reset (R48). -/

namespace Sys2Proof.Machine

open Sys2Proof

/-- The two interrupt sources of the block (R202). -/
inductive Irq
  /-- The edge interrupt, "start-bit detection" (R203). -/
  | edge
  /-- The timer compare interrupt, "bit sampling" (R204). -/
  | timer
deriving DecidableEq, Repr

/-- What a consumer operation hands to the consumer (`return v`, R15). -/
inductive Returned
  /-- `RDST`: the two-bit code of the receive state (R102). -/
  | status (code : BitVec 2)
  /-- `RDBYTE` performed in `ByteReady`: the holding register (R182). -/
  | byte (b : Byte)
  /-- `RDBYTE` performed outside `ByteReady`: a draw (R182); the consumer cannot tell it from a byte. -/
  | draw (b : Byte)
deriving DecidableEq, Repr

/-- The faults of the block: none. "The block raises no exception, trap, fault or error of any kind"; "A model must
not add an error outcome to any operation" (R200; log entry 18). -/
inductive Fault
deriving DecidableEq, Repr

/-- Why a trace is no execution of the block. Every refusal is safe: the model runs less than the hardware, never
something else. -/
inductive Refusal
  /-- Raised by `exec` for an operation without a meaning; none is left. Safe. -/
  | notModelled (mnemonic : String)
  /-- Raised by `EDGE` or `TICK` where the guard, its interrupt deliverable, is false: "a well-formed word with no
  step: the trace is not an execution of the block" (R101, R15). Safe. -/
  | notEnabled (irq : Irq)
  /-- Raised by the fetch: the trace contains a word that spells no operation and "is refused as a whole" (R100). Safe. -/
  | invalidWord (why : DecodeReject)
  /-- Raised by the fetch: no word of the trace is left, so no agent performs an operation (R247; log entry 7). Safe. -/
  | traceEnded
  /-- Raised before an operation of a run: "A model refuses a trace whose first operation other than LINE is not
  INIT" (R231). Safe. -/
  | beforeInit
  /-- Raised before an `ADV` of a run that would delay a deliverable handler beyond `LAT_MAX` (R206, U11). Safe. -/
  | handlerOverdue
  /-- Raised before a `TICK` of a run where both guards hold: "EDGE steps first" (R207; log entry 11). Safe. -/
  | edgeFirst
  /-- Raised before any operation of a run with parameters outside the constraints of R10: "the model is not
  instantiated" (U12). Safe. -/
  | notInstantiated
deriving DecidableEq, Repr

/-- The state: the eleven values of R30, then the parameters, then the model's own fields (INVENTORY.md). -/
structure State where
  /-- `rx_state`, the receive state (R31). -/
  rxState : RxState
  /-- `bit_cnt`, the samples taken in the current byte (R32). -/
  bitCnt : BitVec 3
  /-- `shift_reg`, the accumulating data byte (R33). -/
  shiftReg : Byte
  /-- `rx_byte`, the single-slot holding register (R34). -/
  rxByte : Byte
  /-- `line`, the present level of the RX line (R38). -/
  line : Level
  /-- `edge_en`, the edge interrupt's enable bit (R39). -/
  edgeEn : Bool
  /-- `edge_flag`, the edge interrupt's pending flag (R40). -/
  edgeFlag : Bool
  /-- `tmr_en`, the timer compare interrupt's enable bit (R42). -/
  tmrEn : Bool
  /-- `tmr_flag`, the timer compare interrupt's pending flag (R43). -/
  tmrFlag : Bool
  /-- `tmr_cnt`, the sampling timer's counter, a `TMR_W`-bit value (R44; log entry 14). -/
  tmrCnt : Nat
  /-- `tmr_cmp`, the sampling timer's compare value, a `TMR_W`-bit value (R45; log entry 14). -/
  tmrCmp : Nat
  /-- The parameters of R10, which no operation writes (log entry 1). -/
  params : Params
  /-- The model's own: an `INIT` has been performed (R231; log entry 9). -/
  started : Bool
  /-- The model's own: the time `t`, the `ADV`s performed since `INIT` (R16). -/
  time : Nat
  /-- The model's own: the `ADV`s performed while a deliverable handler has not stepped (R206; log entry 10). -/
  waited : Nat
  /-- The model's own: the draws made so far (R15; log entry 12). -/
  draws : Nat
  /-- The model's own: the values returned to the consumer, oldest first (R50; log entry 13). -/
  returns : List Returned
  /-- The model's own: the operation words of the run not yet performed (R98, R103; log entry 6). -/
  trace : List Byte
deriving DecidableEq, Repr

/-- The machine right after its only reset, the operation `INIT` (R230): the table of R48. `bit_cnt`, `shift_reg`,
`rx_byte` and `tmr_cmp`, which R48 leaves unspecified, are 0 (log entry 4); `line`, "a launch parameter", is 0, the
idle level of the default polarity (log entry 5); no trace is loaded (log entry 6). -/
def State.reset : State where
  rxState := .idle
  bitCnt := 0
  shiftReg := 0
  rxByte := 0
  line := false
  edgeEn := true
  edgeFlag := false
  tmrEn := false
  tmrFlag := false
  tmrCnt := 0
  tmrCmp := 0
  params := Config.resetParams
  started := true
  time := 0
  waited := 0
  draws := 0
  returns := []
  trace := []

end Sys2Proof.Machine
end

