-- ==== Sys2Proof/Machine/Fetch.lean ====
section
/-! DEFINITION. Where an operation of a run comes from: the trace of operation words (R98), whose first word is the
next operation. The block itself fetches nothing (R84); the trace stands for the agents' choices (log entry 6). -/

namespace Sys2Proof.Machine

/-- The next operation of the run and the state with its word taken off the trace. A trace with an invalid word
anywhere is refused as a whole (R100; log entry 8); with no word left nobody performs anything (log entry 7). -/
def fetch (s : State) : Except Refusal (Instr × State) :=
  match decodeTrace s.trace with
  | .error why => .error (.invalidWord why)
  | .ok [] => .error .traceEnded
  | .ok (i :: _) => .ok (i, { s with trace := s.trace.tail })

/-- The state with the operation word `w` in the place the next operation is fetched from. -/
def State.withNextWord (s : State) (w : Byte) : State := { s with trace := w :: s.trace.tail }

end Sys2Proof.Machine
end

