-- ==== Sys2Proof/Machine/Operands.lean ====
section
/-! DEFINITION. The values operations compute with: the derived constants of R11, the length of a tick (R16), the
sample of a line level (R92), the code of a receive state (R102), and arithmetic in the timer's width (R159). -/

namespace Sys2Proof

/-- `IDLE_LEVEL = 1 - START_LEVEL` (R11). -/
def Params.idleLevel (p : Params) : Level := !p.startLevel

/-- `FIRST_CMP = BIT_TICKS + HALF_BIT_TICKS`, 1.5 bit periods (R11). -/
def Params.firstCmp (p : Params) : Nat := p.bitTicks + p.halfBitTicks

/-- The length of one timer tick in seconds, `PRESCALER / F_CPU` (R16). -/
def Params.tickSeconds (p : Params) : ℚ := (p.prescaler : ℚ) / (p.fCpu : ℚ)

/-- A natural number as a `TMR_W`-bit value of the timer (R44, R45). -/
def Params.timerWord (p : Params) (n : Nat) : Nat := n % 2 ^ p.tmrW

/-- The bit a line level is sampled as: `b = line xor SAMPLE_INVERT` (R92). -/
def Params.sampleBit (p : Params) (level : Level) : Bool := level ^^ p.sampleInvert

/-- The line level that carries data bit `d`: R92 "read backwards". -/
def Params.dataLevel (p : Params) (d : Bool) : Level := d ^^ p.sampleInvert

/-- The two-bit code of a receive state: Idle = 0, Receiving = 1, ByteReady = 2 (R102). -/
def RxState.code : RxState → BitVec 2
  | .idle => 0
  | .receiving => 1
  | .byteReady => 2

/-- `(shift_reg >> 1) | (b ++ 0b0000000)`: shift right by one and OR the sampled bit in at bit 7 (R154, R159). -/
def shiftIn (b : Bool) (r : Byte) : Byte := (r >>> 1) ||| (BitVec.ofBool b ++ (0 : BitVec 7))

end Sys2Proof
end

