-- ==== Sys2Proof/Machine/Flags.lean ====
section
/-! DEFINITION. The status flags of R47: when each pending flag is set, and when an interrupt is deliverable (R202). -/

namespace Sys2Proof.Machine

/-- A start transition: the line goes from `IDLE_LEVEL` to `START_LEVEL` (R131). The opposite transition, and no
change of level, are none. -/
def startTransition (p : Params) (old new : Level) : Bool :=
  old == p.idleLevel && new == p.startLevel

/-- `tmr_cnt + 1` as the `TMR_W`-bit value it is compared as (R151, R159). -/
def State.nextCount (s : State) : Nat := s.params.timerWord (s.tmrCnt + 1)

/-- The counter reaches the compare value at the next tick (R151). -/
def State.matchesNext (s : State) : Bool := s.nextCount == s.tmrCmp

/-- "An interrupt is deliverable when its enable bit and its pending flag are both 1; its handler's guard is
exactly that" (R202). -/
def deliverable (irq : Irq) (s : State) : Bool :=
  match irq with
  | .edge => s.edgeEn && s.edgeFlag
  | .timer => s.tmrEn && s.tmrFlag

/-- Some handler of the block is deliverable (R206). -/
def awaitsHandler (s : State) : Bool := deliverable .edge s || deliverable .timer s

/-- The block's only data-ready indication: an `INIT` has been performed and `rx_state = ByteReady` (R47, R231). -/
def State.byteAvailable (s : State) : Bool := s.started && s.rxState == .byteReady

end Sys2Proof.Machine
end

