-- ==== Sys2Proof/Machine/Ops.lean ====
section
/-! DEFINITION. The shared operations on the state: sequencing, entering and leaving a handler (R208, R210), and the
updates the pseudocode of R120, R131, R133, R151, R154, R180, R182 and R184 is made of. -/

namespace Sys2Proof.Machine

/-- Do `f` after an outcome that is a next state; a fault or a refusal stays what it is. -/
def andThen {σ τ φ ρ : Type} (o : Host.Outcome σ φ ρ) (f : σ → Host.Outcome τ φ ρ) : Host.Outcome τ φ ρ :=
  match o with
  | .next s => f s
  | .fault r => .fault r
  | .refused r => .refused r

/-- Taking an interrupt consumes its request: its pending flag is cleared (R133, R154), and no handler is owed any
longer (R206). -/
def acknowledge (irq : Irq) (s : State) : State :=
  match irq with
  | .edge => { s with edgeFlag := false, waited := 0 }
  | .timer => { s with tmrFlag := false, waited := 0 }

/-- Entering a handler, the one shared operation of both interrupts: its guard is that the interrupt is deliverable
(R202); "nothing of the block's state is saved, stacked or switched on entry" (R208) and there is no vector, so all
that entry does is take the request. With the guard false there is no step (R101). -/
def enterHandler (irq : Irq) (s : State) : Host.Outcome State Fault Refusal :=
  if deliverable irq s then .next (acknowledge irq s) else .refused (.notEnabled irq)

/-- Returning from a handler: "There is no return instruction to specify and nothing to restore" (R210). -/
def leaveHandler (s : State) : Host.Outcome State Fault Refusal := .next s

/-- What `INIT` writes (R120); `bit_cnt`, `shift_reg`, `rx_byte`, `tmr_cmp` and `line` are not written. The time is
counted from here (R16) and no handler is owed. -/
def initialise (s : State) : State :=
  { s with
    rxState := .idle, tmrEn := false, tmrFlag := false, tmrCnt := 0, edgeFlag := false, edgeEn := true
    started := true, time := 0, waited := 0 }

/-- The line takes level `v`; a start transition is latched whether or not the edge interrupt is enabled (R131). -/
def driveLine (v : Level) (s : State) : State :=
  { s with edgeFlag := s.edgeFlag || startTransition s.params s.line v, line := v }

/-- "Disable the edge interrupt" (R133). -/
def disableEdge (s : State) : State := { s with edgeEn := false }

/-- "Reset/restart the sampling timer with a compare value equal to 1.5 bit periods" (R133). -/
def restartTimer (s : State) : State :=
  { s with tmrCnt := 0, tmrFlag := false, tmrCmp := s.params.timerWord s.params.firstCmp, tmrEn := true }

/-- "Clear the bit counter", "set state to Receiving" (R133). -/
def beginFrame (s : State) : State := { s with bitCnt := 0, rxState := .receiving }

/-- One tick of time passes (R16); a deliverable handler that has not stepped has waited one tick more (R206). -/
def passTick (s : State) : State :=
  { s with time := s.time + 1, waited := if awaitsHandler s then s.waited + 1 else 0 }

/-- The sampling timer counts while its interrupt is enabled; a match returns it to 0 and sets its flag (R151). -/
def clockTimer (s : State) : State :=
  if s.tmrEn then
    if s.matchesNext then { s with tmrCnt := 0, tmrFlag := true } else { s with tmrCnt := s.nextCount }
  else s

/-- One sample: the line's bit enters `shift_reg` at the top and the compare value becomes one bit period (R155). -/
def takeSample (s : State) : State :=
  { s with
    shiftReg := shiftIn (s.params.sampleBit s.line) s.shiftReg
    tmrCmp := s.params.timerWord s.params.bitTicks }

/-- `bit_cnt` goes up by one (R155). -/
def countSample (s : State) : State := { s with bitCnt := s.bitCnt + 1 }

/-- The completion step after the eighth sample is shifted in (R156). -/
def publish (s : State) : State :=
  { s with
    rxByte := s.shiftReg, rxState := .byteReady, tmrEn := false, edgeEn := true, edgeFlag := false, bitCnt := 0 }

/-- The body of the bit-sample handler: a sample while in `Receiving`, nothing otherwise (R154, R157). -/
def sampleLine (s : State) : State :=
  if s.rxState = .receiving then
    if s.bitCnt = Config.lastSample then publish (takeSample s) else countSample (takeSample s)
  else s

/-- Release the holding register: an unconditional write of `Idle` (R184). -/
def release (s : State) : State := { s with rxState := .idle }

/-- Hand a value to the consumer: `return v` (R15). -/
def giveBack (r : Returned) (s : State) : State := { s with returns := s.returns ++ [r] }

/-- One draw has been made (R15). -/
def countDraw (s : State) : State := { s with draws := s.draws + 1 }

end Sys2Proof.Machine
end

