-- ==== Sys2Proof/Machine/BitSampling.lean ====
section
/-! DEFINITION. Operation family 2, bit sampling: `ADV` (R151) and `TICK` (R154). -/

namespace Sys2Proof.Machine

/-- `ADV` (R151): no guard. -/
def execAdv (s : State) : Host.Outcome State Fault Refusal := .next (clockTimer (passTick s))

/-- `TICK` (R154): guarded by its interrupt; no framing, parity, overrun or noise condition is detected. -/
def execTick (s : State) : Host.Outcome State Fault Refusal :=
  andThen (enterHandler .timer s) fun s => leaveHandler (sampleLine s)

end Sys2Proof.Machine
end

