-- ==== Sys2Proof/Machine/Consumer.lean ====
section
/-! DEFINITION. Operation family 3, the consumer's read port: `RDST` (R180), `RDBYTE` (R182), `CLR` (R184). -/

namespace Sys2Proof.Machine

/-- `RDST` (R180): returns the code of `rx_state`; before the first `INIT`, of a drawn state. -/
def execRdst (s : State) : Host.Outcome State Fault Refusal :=
  if s.started then .next (giveBack (.status s.rxState.code) s)
  else .next (countDraw (giveBack (.status (Config.drawRxState s.draws).code) s))

/-- `RDBYTE` (R182): returns `rx_byte` in `ByteReady`, and a draw otherwise. -/
def execRdbyte (s : State) : Host.Outcome State Fault Refusal :=
  if s.byteAvailable then .next (giveBack (.byte s.rxByte) s)
  else .next (countDraw (giveBack (.draw (Config.draw8 s.draws)) s))

/-- `CLR` (R184): "a plain write, not a conditional one". -/
def execClr (s : State) : Host.Outcome State Fault Refusal := .next (release s)

end Sys2Proof.Machine
end

