-- ==== Sys2Proof/Machine/Initialise.lean ====
section
/-! DEFINITION. Operation family 0, initialisation: `INIT` (R120). -/

namespace Sys2Proof.Machine

/-- `INIT` (R120): always enabled, in any state. -/
def execInit (s : State) : Host.Outcome State Fault Refusal := .next (initialise s)

end Sys2Proof.Machine
end

