-- ==== Sys2Proof/Machine/StartDetection.lean ====
section
/-! DEFINITION. Operation family 1, start detection: `LINE` (R131) and `EDGE` (R133). -/

namespace Sys2Proof.Machine

/-- `LINE v` (R131): no guard; no minimum pulse width and no filter. -/
def execLine (v : Level) (s : State) : Host.Outcome State Fault Refusal := .next (driveLine v s)

/-- `EDGE` (R133): guarded by its interrupt alone, not by `rx_state` (R134); `line` is not read (R136). -/
def execEdge (s : State) : Host.Outcome State Fault Refusal :=
  andThen (enterHandler .edge s) fun s => leaveHandler (beginFrame (restartTimer (disableEdge s)))

end Sys2Proof.Machine
end

