-- ==== Sys2Proof/Machine/Dispatch.lean ====
section
/-! DEFINITION. The meaning of every operation, one arm per row of spec/opcode_table.json. -/

namespace Sys2Proof.Machine

def exec (i : Instr) (s : State) : Host.Outcome State Fault Refusal :=
  match i with
  | .init => Sys2Proof.Machine.execInit s
  | .line v => Sys2Proof.Machine.execLine v s
  | .adv => Sys2Proof.Machine.execAdv s
  | .edge => Sys2Proof.Machine.execEdge s
  | .tick => Sys2Proof.Machine.execTick s
  | .rdst => Sys2Proof.Machine.execRdst s
  | .rdbyte => Sys2Proof.Machine.execRdbyte s
  | .clr => Sys2Proof.Machine.execClr s

end Sys2Proof.Machine
end

