-- ==== Sys2Proof/Machine/Run.lean ====
section
/-! DEFINITION. Which sequences of operations are executions of the block (R247): the parameters obey R10, the run
begins with `INIT` (R231), handlers are delivered within `LAT_MAX` (R206), `EDGE` goes first (R207). -/

namespace Sys2Proof.Machine

/-- The operations with a defined meaning before the first `INIT` (R231). -/
def allowedBeforeInit : Instr → Bool
  | .init | .line _ => true
  | .adv | .edge | .tick | .rdst | .rdbyte | .clr => false

/-- An `ADV` now would bring the time above `td + LAT_MAX` while a handler is still enabled (R206). -/
def overdue (s : State) : Bool := awaitsHandler s && decide (s.params.latMax ≤ s.waited)

/-- Why `i` may not be the next operation of a run in state `s`, if it may not. An operation's own guard is not
asked here: it is part of its meaning. -/
def objection (i : Instr) (s : State) : Option Refusal :=
  if s.params.wellFormed = false then some .notInstantiated
  else if s.started = false ∧ allowedBeforeInit i = false then some .beforeInit
  else if i = .adv ∧ overdue s = true then some .handlerOverdue
  else if i = .tick ∧ deliverable .edge s = true ∧ deliverable .timer s = true then some .edgeFirst
  else none

/-- One operation of a run (R247). -/
def perform (i : Instr) (s : State) : Host.Outcome State Fault Refusal :=
  match objection i s with
  | some r => .refused r
  | none => exec i s

/-- A sequence of operations of a run, each performed in the state the one before it left (R79). -/
def performAll (ops : List Instr) (s : State) : Host.Outcome State Fault Refusal :=
  match ops with
  | [] => .next s
  | i :: rest => andThen (perform i s) (performAll rest)

/-- The pseudo-operation `POLL` (R104, R186) with no other agent stepping between its parts: the byte it returns, if
any, and the state after it. -/
def poll (s : State) : Host.Outcome (Option Byte × State) Fault Refusal :=
  andThen (perform .rdst s) fun s =>
    if s.returns.getLast? = some (.status RxState.byteReady.code) then
      andThen (perform .rdbyte s) fun s =>
        andThen (perform .clr s) fun t =>
          match s.returns.getLast? with
          | some (.byte b) | some (.draw b) => .next (some b, t)
          | some (.status _) | none => .next (none, t)
    else .next (none, s)

/-- The byte a returned value delivers: that of an `RDBYTE` performed in `ByteReady` (R247). -/
def Returned.delivers : Returned → Option Byte
  | .byte b => some b
  | .status _ | .draw _ => none

/-- What a run delivers: the values its `RDBYTE`s returned in `ByteReady`, in order (R247). -/
def State.delivered (s : State) : List Byte := s.returns.filterMap Returned.delivers

end Sys2Proof.Machine
end

