-- ==== Sys2Proof/Machine/Step.lean ====
section
/-! DEFINITION. One step of the machine: the next operation of the trace, performed as an operation of a run. -/

namespace Sys2Proof.Machine

/-- Fetch the next operation of the run (R98, R100) and perform it (R247). -/
def step (s : State) : Host.Outcome State Fault Refusal :=
  match fetch s with
  | .error r => .refused r
  | .ok (i, s') => perform i s'

/-- The state with a table row's word as the next word of the trace: the bits above `nbits` are 0, and an operation
is one byte. Nothing else changes (log entry 6). -/
def State.withFetchWord (s : State) (nbits w : Nat) : State :=
  s.withNextWord (BitVec.ofNat 8 (w % 2 ^ nbits))

end Sys2Proof.Machine
end

