-- ==== Sys2Proof/Machine/Agents.lean ====
section
/-! DEFINITION. Who performs each operation and in which context (R17, R212), and the text of a trace (R103). -/

namespace Sys2Proof

/-- The agents of the block (R17). -/
inductive Agent
  | initialiser
  | lineEnvironment
  | startDetectHandler
  | clockEnvironment
  | bitSampleHandler
  | consumer
deriving DecidableEq, Repr

/-- The execution contexts (R212), and the world outside the processor (R131, R151). -/
inductive Context
  | mainLoop
  | interrupt
  | environment
deriving DecidableEq, Repr

/-- The agent that performs an operation (R17). -/
def Instr.agent : Instr → Agent
  | .init => .initialiser
  | .line _ => .lineEnvironment
  | .adv => .clockEnvironment
  | .edge => .startDetectHandler
  | .tick => .bitSampleHandler
  | .rdst | .rdbyte | .clr => .consumer

/-- The context an agent runs in: `INIT` and the consumer in the main loop, the two handlers in interrupt context
(R212). -/
def Agent.context : Agent → Context
  | .initialiser | .consumer => .mainLoop
  | .startDetectHandler | .bitSampleHandler => .interrupt
  | .lineEnvironment | .clockEnvironment => .environment

/-- The operation as a trace spells it (R103). -/
def Instr.text : Instr → String
  | .init => "INIT"
  | .line v => if v then "LINE 1" else "LINE 0"
  | .adv => "ADV"
  | .edge => "EDGE"
  | .tick => "TICK"
  | .rdst => "RDST"
  | .rdbyte => "RDBYTE"
  | .clr => "CLR"

/-- A trace as runs of equal operations, for the `x n` of R103. -/
def runsOf (ops : List Instr) : List (Instr × Nat) :=
  match ops with
  | [] => []
  | i :: rest =>
    match runsOf rest with
    | (j, n) :: runs => if i = j then (i, n + 1) :: runs else (i, 1) :: (j, n) :: runs
    | [] => [(i, 1)]

/-- One run of equal operations: the mnemonic, with `x n` after it for `n` repetitions (R103). -/
def runText (run : Instr × Nat) : String :=
  if run.2 = 1 then run.1.text else run.1.text ++ " x" ++ toString run.2

/-- A trace "written as mnemonics separated by ;" (R103). -/
def traceText (ops : List Instr) : String :=
  String.intercalate "; " ((runsOf ops).map runText)

end Sys2Proof
end

