-- ==== Sys2Proof/Machine/Frame.lean ====
section
/-! DEFINITION. The serial frame: its cells and their levels (R91, R92), the environment's macros `FRAME` and `GAP`
(R105), the pseudo-operation `POLL` as a trace (R104), and when samples fall (R161, R163). -/

namespace Sys2Proof.Machine

/-- The level of the line in cell `j` of the frame for `D`: cell 0 is the start cell, cell `k + 1` carries data bit
`k`, and after cell 8 comes the stop gap (R91). -/
def cellLevel (p : Params) (D : Byte) (j : Nat) : Level :=
  match j with
  | 0 => p.startLevel
  | k + 1 => if k < 8 then p.dataLevel (D.getLsbD k) else p.idleLevel

/-- The environment plays cells `j`, `j + 1`, ..., `j + n - 1`, each `P` ticks long, and the change of level that ends
the last of them. -/
def cellOps (p : Params) (D : Byte) (P : Nat) (j n : Nat) : List Instr :=
  match n with
  | 0 => [.line (cellLevel p D j)]
  | n + 1 => .line (cellLevel p D j) :: (List.replicate P .adv ++ cellOps p D P (j + 1) n)

/-- The frame for `D` from a transmitter whose bit period is `P` ticks: nine cells, then `IDLE_LEVEL` (R91, R163). -/
def frameAtRate (p : Params) (D : Byte) (P : Nat) : List Instr := cellOps p D P 0 9

/-- The macro `FRAME D`: the transmitter's bit period is the receiver's `BIT_TICKS` (R105). -/
def frameOps (p : Params) (D : Byte) : List Instr := frameAtRate p D p.bitTicks

/-- The macro `GAP n` (R105). -/
def gapOps (n : Nat) : List Instr := List.replicate n .adv

/-- The data cells from cell `j` on with each `TICK` delivered at once: `HALF_BIT_TICKS` into its cell (R162, R206). -/
def promptCells (p : Params) (D : Byte) (j n : Nat) : List Instr :=
  match n with
  | 0 => [.line (cellLevel p D j)]
  | n + 1 =>
    .line (cellLevel p D j) :: (List.replicate p.halfBitTicks .adv ++
      .tick :: (List.replicate (p.bitTicks - p.halfBitTicks) .adv ++ promptCells p D (j + 1) n))

/-- `FRAME D` with every handler delivered at once, as the spec writes its traces for `LAT_MAX = 0` (R105, R206). -/
def promptFrame (p : Params) (D : Byte) : List Instr :=
  .line (cellLevel p D 0) :: .edge :: (List.replicate p.bitTicks .adv ++ promptCells p D 1 8)

/-- `POLL` as a trace, by what its `RDST` returns (R104). -/
def pollOps (ready : Bool) : List Instr := if ready then [.rdst, .rdbyte, .clr] else [.rdst]

/-- The operations of the environment, of which a `FRAME` consists (R132). -/
def isEnvironment : Instr → Bool
  | .line _ | .adv => true
  | .init | .edge | .tick | .rdst | .rdbyte | .clr => false

/-- The instant `s_k` of sample `k`: the start transition at `te`, `EDGE` delayed by `de`, `TICK` by `dk` (R161). -/
def sampleInstant (p : Params) (te de dk k : Nat) : Nat := te + de + p.firstCmp + k * p.bitTicks + dk

/-- The condition of R163 for sample `k` to read cell `k + 1` of a frame whose bit period is `P` ticks, with delays
`d = de + dk` in all. -/
def readsItsCell (p : Params) (P d k : Nat) : Prop :=
  (k + 1) * P < d + p.firstCmp + k * p.bitTicks ∧ d + p.firstCmp + k * p.bitTicks < (k + 2) * P

end Sys2Proof.Machine
end

