-- ==== Sys2Proof/Safety.lean ====
section
/-! DEFINITION. The terms statements are written in: the invariants of R49, the wedged state of R243, a receiver that
is ready for a frame, and outcomes compared up to one field. -/

namespace Sys2Proof.Machine

/-- The invariants of R49 (items 1, 2, 3 and 5; items 4 and 6 speak of runs), with what the delivery rule of R206 adds
so that every operation of a run keeps them. -/
structure RunInvariant (s : State) : Prop where
  /-- The parameters obey R10. -/
  instantiated : s.params.wellFormed = true
  /-- An `INIT` has been performed (R231). -/
  started : s.started = true
  /-- Item 1: exactly one of the two interrupts is enabled. -/
  oneEnabled : s.edgeEn = !s.tmrEn
  /-- Item 2: `Receiving` implies `tmr_en = 1` and `edge_en = 0`. -/
  receiving : s.rxState = .receiving → s.tmrEn = true ∧ s.edgeEn = false
  /-- In `ByteReady` the enables are as `Idle` needs them (R184); R157 is reachable in `Idle` only (R123). -/
  byteReady : s.rxState = .byteReady → s.edgeEn = true ∧ s.tmrEn = false
  /-- Item 3: `tmr_flag = 1` implies `tmr_en = 1`. -/
  flagEnabled : s.tmrFlag = true → s.tmrEn = true
  /-- Item 5: while `tmr_en = 1`, `tmr_cmp` is `FIRST_CMP` or `BIT_TICKS`. -/
  compare : s.tmrEn = true → s.tmrCmp = s.params.firstCmp ∨ s.tmrCmp = s.params.bitTicks
  /-- Item 5: while `tmr_en = 1`, `0 <= tmr_cnt < tmr_cmp`. -/
  counting : s.tmrEn = true → s.tmrCnt < s.tmrCmp
  /-- The counter and the compare value are `TMR_W`-bit values (R44, R45). -/
  widths : s.tmrCnt < 2 ^ s.params.tmrW ∧ s.tmrCmp < 2 ^ s.params.tmrW
  /-- The counter restarts at the match, not at the handler (R152): it has counted the handler's delay. -/
  sinceMatch : s.tmrFlag = true → s.tmrCnt = s.waited
  /-- A handler is never late by more than `LAT_MAX` ticks (R206). -/
  inTime : s.waited ≤ s.params.latMax
  /-- Nothing is waited for while no handler is deliverable (R206). -/
  noneOwed : awaitsHandler s = false → s.waited = 0

/-- The wedged state of R243: `Idle` with the timer interrupt on and the edge interrupt off. -/
def Wedged (s : State) : Prop := s.rxState = .idle ∧ s.tmrEn = true ∧ s.edgeEn = false

/-- The block as R162 wants it before a frame: reachable, in `Idle` or `ByteReady`, `edge_en = 1`, `edge_flag = 0`,
and the line at `IDLE_LEVEL`. -/
structure ReadyForFrame (s : State) : Prop where
  inv : RunInvariant s
  notReceiving : s.rxState ≠ .receiving
  enabled : s.edgeEn = true
  clear : s.edgeFlag = false
  atIdle : s.line = s.params.idleLevel

/-- The operations of the consumer (R17). -/
def isConsumer (i : Instr) : Prop := i = .rdst ∨ i = .rdbyte ∨ i = .clr

/-- An outcome with its next state, if it has one, changed by `f`. -/
def mapNext (f : State → State) (o : Host.Outcome State Fault Refusal) : Host.Outcome State Fault Refusal :=
  match o with
  | .next s => .next (f s)
  | .fault r => .fault r
  | .refused r => .refused r

/-- The levels of `levels` sampled one after the other: each is put on the line with the timer's flag raised, and
`TICK` performed (R158). -/
def sampleAll (levels : List Level) (s : State) : Host.Outcome State Fault Refusal :=
  match levels with
  | [] => .next s
  | l :: rest => andThen (exec .tick { s with line := l, tmrFlag := true }) (sampleAll rest)

/-- `n` ticks of the timer, one after the other (R151). -/
def advAll (n : Nat) (s : State) : Host.Outcome State Fault Refusal :=
  match n with
  | 0 => .next s
  | n + 1 => andThen (exec .adv s) (advAll n)

end Sys2Proof.Machine
end

