-- ==== Sys2Proof/Certificates/Slice0/Obligations.lean ====
section
/-! DEFINITION. The statements for the provers, each from a rule of the spec. Where a rule rests on a decision or a
derivation that the spec marks as its own (D<n>, or "derived"), the docstring says so. -/

open Sys2Proof Sys2Proof.Machine

/-! ### Words and traces -/

/-- A few words written out from the table of R99 (the spec's own encoding, D20). -/
def Obligations.SpelledOutWordsDecode : Prop :=
  decode 0b00000000#8 = .ok .init ∧ decode 0b00010000#8 = .ok (.line false) ∧
  decode 0b00010001#8 = .ok (.line true) ∧ decode 0b00100000#8 = .ok .adv ∧
  decode 0b00110000#8 = .ok .edge ∧ decode 0b01000000#8 = .ok .tick ∧
  decode 0b01010000#8 = .ok .rdst ∧ decode 0b01100000#8 = .ok .rdbyte ∧ decode 0b01110000#8 = .ok .clr

/-- The only word that decodes to an operation is the operation's own (R98, R99; the spec's own encoding, D20). -/
def Obligations.DecodeIsTheInverseOfEncode : Prop :=
  ∀ (w : Byte) (i : Instr), decode w = .ok i ↔ encode i = w

/-- A byte string spells a list of operations exactly when it is their words in order (R98, R100; the spec's own
encoding, D20). -/
def Obligations.TraceDecodeAndEncodeAgree : Prop :=
  ∀ (words : List Byte) (ops : List Instr), decodeTrace words = .ok ops ↔ ops.map encode = words

/-- R100 (the spec's own, D20): which words are reserved, that there are 247 of them, and that a trace which holds
one is refused as a whole. That the refusal comes at the first step is the model's choice, log entry 8. -/
def Obligations.ReservedWordsRefuseTheTrace : Prop :=
  (∀ w : Byte, (∃ why, decode w = .error why) ↔
    (8 ≤ w.toNat / 16 ∨ w.toNat / 2 % 8 ≠ 0 ∨ (w.toNat % 2 = 1 ∧ w.toNat / 16 ≠ 1))) ∧
  ((List.range 256).filter fun n => (decodeTableWord 8 n).isNone).length = 247 ∧
  ∀ (s : State) (w : Byte) (why : DecodeReject), w ∈ s.trace → decode w = .error why →
    ∃ why', step s = .refused (.invalidWord why')

/-- A step performs the operation its next word decodes to: it takes the word off the trace and runs `exec`, or,
where a rule on runs forbids the operation now (R206, R207, R231, U12), refuses by that rule's name. The trace and
the order of these checks are the model's choice, log entries 6, 8 and 10. -/
def Obligations.StepRunsTheDecodedOperation : Prop :=
  ∀ (s : State) (w : Byte) (rest : List Byte) (i : Instr) (later : List Instr),
    s.trace = w :: rest → decode w = .ok i → decodeTrace rest = .ok later →
    (objection i s = none → step s = exec i { s with trace := rest }) ∧
    (∀ r, objection i s = some r → step s = .refused r)

/-- The machine run on the words of a list of operations is the operations performed one after the other (R79). That
the words stand in a field of the state is the model's choice, log entry 6. -/
def Obligations.RunOfTheWordsPerformsTheOperations : Prop :=
  ∀ (ops : List Instr) (s : State),
    (Sys2Proof.core.run ops.length ({ s with trace := ops.map encode } : State) :
      Host.Outcome State Fault Refusal) = performAll ops { s with trace := [] }

/-- No word left is a refusal, not a step: the model's choice, log entry 7. -/
def Obligations.EmptyTraceIsRefused : Prop :=
  ∀ s : State, s.trace = [] → step s = .refused .traceEnded

/-- No operation has an error outcome (R200; that the model therefore gives `Fault` no constructor is its own
inference, log entry 18); and the only operations without a step are a handler whose interrupt is not deliverable
(R202). That such a handler is a refusal, by that name, is inferred from the spec's own choice for its words (R101,
D20), log entry 15. -/
def Obligations.NoOperationHasAnErrorOutcome : Prop :=
  (∀ (i : Instr) (s : State) (r : Fault), exec i s ≠ .fault r ∧ step s ≠ .fault r) ∧
  ∀ (i : Instr) (s : State), (∃ t, exec i s = .next t) ∨
    (i = .edge ∧ deliverable .edge s = false ∧ exec i s = .refused (.notEnabled .edge)) ∨
    (i = .tick ∧ deliverable .timer s = false ∧ exec i s = .refused (.notEnabled .timer))

/-! ### Initialisation and the start of a run -/

/-- `INIT` (R120; what it writes is the spec's own choice, D15): its word, its agent, and its effect in every state.
`started`, `time` and `waited` are the model's own fields, log entries 9 and 10. -/
def Obligations.InitCreatesTheReceiveState : Prop :=
  encode .init = 0x00#8 ∧ Instr.init.agent = .initialiser ∧
  ∀ s : State, exec .init s = .next
    { s with
      rxState := .idle, tmrEn := false, tmrFlag := false, tmrCnt := 0, edgeFlag := false, edgeEn := true
      started := true, time := 0, waited := 0 }

/-- The reset state holds the values R48 gives (the spec's own choice, D15), and `INIT` finds nothing left to write
in it. Nothing is said of the four values R48 leaves unspecified, log entry 4. -/
def Obligations.ResetIsTheStateAfterInit : Prop :=
  State.reset.rxState = .idle ∧ State.reset.edgeEn = true ∧ State.reset.edgeFlag = false ∧
  State.reset.tmrEn = false ∧ State.reset.tmrFlag = false ∧ State.reset.tmrCnt = 0 ∧
  exec .init State.reset = .next State.reset

/-- R231 (the spec's own, D15): before `INIT` a run may hold `LINE`s only; `INIT` then starts it from whatever level
they left, with no transition latched. -/
def Obligations.RunBeginsWithInit : Prop :=
  ∀ (s : State) (levels : List Level), s.params.wellFormed = true → s.started = false →
    (∀ i, allowedBeforeInit i = false →
      performAll (levels.map Instr.line ++ [i]) s = .refused .beforeInit) ∧
    ∃ t, performAll (levels.map Instr.line ++ [.init]) s = .next t ∧ t.started = true ∧
      t.rxState = .idle ∧ t.line = levels.getLastD s.line ∧ t.edgeFlag = false

/-- The corner cases of `INIT` that R121 derives: a second one changes nothing; after one neither handler is
enabled, the holding register still holds its byte, and a line already at `START_LEVEL` is no transition. -/
def Obligations.InitInAnyStateAbandonsTheFrame : Prop :=
  ∀ s t : State, exec .init s = .next t →
    exec .init t = .next t ∧ t.rxByte = s.rxByte ∧ t.line = s.line ∧
    exec .edge t = .refused (.notEnabled .edge) ∧ exec .tick t = .refused (.notEnabled .timer) ∧
    (s.line = s.params.startLevel → ∀ u, exec (.line s.params.startLevel) t = .next u → u = t)

/-! ### Start detection -/

/-- `LINE v` (R131; that a transition is latched while the interrupt is disabled is the spec's own reading, D13, and
that there is no filter, D27): its words, its agent, and its effect in every state. -/
def Obligations.LineLatchesStartTransitions : Prop :=
  encode (.line false) = 0x10#8 ∧ encode (.line true) = 0x11#8 ∧
  ∀ (v : Level) (s : State), (Instr.line v).agent = .lineEnvironment ∧
    (s.line = !s.params.startLevel → v = s.params.startLevel →
      exec (.line v) s = .next { s with edgeFlag := true, line := v }) ∧
    (¬(s.line = !s.params.startLevel ∧ v = s.params.startLevel) →
      exec (.line v) s = .next { s with line := v })

/-- `EDGE` (R133; what "restart" covers and that the flag is cleared on entry are the spec's own reading, D5, D12):
its word, its agent, its guard and its effect, whatever `rx_state` is (R134, D11). `waited` is the model's own
field, log entry 10, and the refusal is log entry 15. -/
def Obligations.EdgeBeginsAFrame : Prop :=
  encode .edge = 0x30#8 ∧ Instr.edge.agent = .startDetectHandler ∧
  ∀ s : State, s.params.wellFormed = true →
    (s.edgeEn = true → s.edgeFlag = true → exec .edge s = .next
      { s with
        edgeFlag := false, edgeEn := false, tmrCnt := 0, tmrFlag := false
        tmrCmp := s.params.bitTicks + s.params.halfBitTicks, tmrEn := true, bitCnt := 0, rxState := .receiving
        waited := 0 }) ∧
    (¬(s.edgeEn = true ∧ s.edgeFlag = true) → exec .edge s = .refused (.notEnabled .edge))

/-- The first stage of a loss (R134, R81; the spec's own resolution C1, D11): a start edge in `ByteReady` makes the
unread byte unreachable, leaves it in the holding register, and does exactly what it does in `Idle`. -/
def Obligations.EdgeInByteReadyHidesTheUnreadByte : Prop :=
  ∀ s : State, s.started = true → s.rxState = .byteReady → s.edgeEn = true → s.edgeFlag = true →
    exec .edge s = exec .edge { s with rxState := .idle } ∧
    ∃ t, exec .edge s = .next t ∧ t.rxState = .receiving ∧ t.rxByte = s.rxByte ∧
      exec .rdst t = .next { t with returns := t.returns ++ [.status 1] } ∧
      exec .rdbyte t = .next { t with returns := t.returns ++ [.draw (Config.draw8 t.draws)], draws := t.draws + 1 }

/-- "No re-entrant start detection mid-byte" (R135, which the spec derives): no transition of the line makes `EDGE`
runnable while a byte is being received. -/
def Obligations.NoStartDetectionDuringAByte : Prop :=
  ∀ s : State, RunInvariant s → s.rxState = .receiving →
    exec .edge s = .refused (.notEnabled .edge) ∧
    ∀ (v : Level) (t : State), exec (.line v) s = .next t → exec .edge t = .refused (.notEnabled .edge)

/-! ### Bit sampling -/

/-- `ADV` (R151; the counting law is the spec's own, D4, D14, D26): its word, its agent, and its effect in every
state. `waited`, the handler's delay, is the model's own field, log entry 10. -/
def Obligations.AdvCountsOneTick : Prop :=
  encode .adv = 0x20#8 ∧ Instr.adv.agent = .clockEnvironment ∧
  ∀ s : State, ∃ w : Nat,
    w = (if (s.edgeEn && s.edgeFlag || s.tmrEn && s.tmrFlag) then s.waited + 1 else 0) ∧
    (s.tmrEn = false → exec .adv s = .next { s with time := s.time + 1, waited := w }) ∧
    (s.tmrEn = true → (s.tmrCnt + 1) % 2 ^ s.params.tmrW = s.tmrCmp →
      exec .adv s = .next { s with time := s.time + 1, waited := w, tmrCnt := 0, tmrFlag := true }) ∧
    (s.tmrEn = true → (s.tmrCnt + 1) % 2 ^ s.params.tmrW ≠ s.tmrCmp →
      exec .adv s = .next
        { s with time := s.time + 1, waited := w, tmrCnt := (s.tmrCnt + 1) % 2 ^ s.params.tmrW })

/-- `TICK` (R154; the two registers, the counter's test and the compare write are the spec's own choices, D2, D3,
D6, and the word, D20): its word, its agent, its guard and its effect: one sample, the completion at the eighth, and
nothing but its flag outside `Receiving`. `waited` is the model's own field, log entry 10, and the refusal is log
entry 15. -/
def Obligations.TickTakesASample : Prop :=
  encode .tick = 0x40#8 ∧ Instr.tick.agent = .bitSampleHandler ∧
  ∀ s : State, s.params.wellFormed = true →
    ∃ r : Byte, r = (s.shiftReg >>> 1) ||| (BitVec.ofBool (s.line ^^ s.params.sampleInvert) ++ 0b0000000#7) ∧
    (s.tmrEn = true → s.tmrFlag = true → s.rxState = .receiving → s.bitCnt = 7 → exec .tick s = .next
      { s with
        tmrFlag := false, shiftReg := r, tmrCmp := s.params.bitTicks, rxByte := r, rxState := .byteReady
        tmrEn := false, edgeEn := true, edgeFlag := false, bitCnt := 0, waited := 0 }) ∧
    (s.tmrEn = true → s.tmrFlag = true → s.rxState = .receiving → s.bitCnt ≠ 7 → exec .tick s = .next
      { s with
        tmrFlag := false, shiftReg := r, tmrCmp := s.params.bitTicks, bitCnt := s.bitCnt + 1, waited := 0 }) ∧
    (s.tmrEn = true → s.tmrFlag = true → s.rxState ≠ .receiving → exec .tick s = .next
      { s with tmrFlag := false, waited := 0 }) ∧
    (¬(s.tmrEn = true ∧ s.tmrFlag = true) → exec .tick s = .refused (.notEnabled .timer))

/-- After the completion step (R156, R160; partly the spec's own, D2, D3) the stale flag is gone, and `EDGE` becomes
enabled by a start transition and by nothing else the line does. -/
def Obligations.CompletionDiscardsStaleTransitions : Prop :=
  ∀ s t : State, s.rxState = .receiving → s.bitCnt = 7 → exec .tick s = .next t →
    exec .edge t = .refused (.notEnabled .edge) ∧
    ∀ (v : Level) (u : State), exec (.line v) t = .next u →
      ((∃ x, exec .edge u = .next x) ↔ (t.line = !t.params.startLevel ∧ v = t.params.startLevel))

/-- The block's arithmetic (R159): the shift moves every bit down one place and writes `b` at bit 7; the sample
count and, in a reachable state, the timer's count go up by one without wrapping. -/
def Obligations.ShiftAndCountsNeverWrap : Prop :=
  (∀ (b : Bool) (r : Byte), (shiftIn b r).getLsbD 7 = b ∧
    (∀ k, k < 7 → (shiftIn b r).getLsbD k = r.getLsbD (k + 1)) ∧
    (shiftIn b r).toNat = r.toNat / 2 + 128 * b.toNat) ∧
  (∀ (s t : State), s.rxState = .receiving → s.bitCnt ≠ 7 → exec .tick s = .next t →
    t.bitCnt.toNat = s.bitCnt.toNat + 1) ∧
  (∀ (s t : State), RunInvariant s → s.tmrEn = true → exec .adv s = .next t →
    (s.tmrCnt + 1 < s.tmrCmp ∧ t.tmrCnt = s.tmrCnt + 1) ∨ (s.tmrCnt + 1 = s.tmrCmp ∧ t.tmrCnt = 0))

/-- The shift law (R158, which the spec derives): after `n` samples from the start of a frame the top `n` bits of
`shift_reg` are the samples, the first lowest, and the rest are what the register held before, `n` places down; the
eighth sample puts the eight into `rx_byte`, with no bit of the old content left. -/
def Obligations.ShiftLaw : Prop :=
  ∀ (s : State) (levels : List Level), s.rxState = .receiving → s.bitCnt = 0 → s.tmrEn = true →
    levels.length ≤ 8 → ∃ t, sampleAll levels s = .next t ∧
      (∀ k, k < 8 - levels.length → t.shiftReg.getLsbD k = s.shiftReg.getLsbD (k + levels.length)) ∧
      (∀ k l, levels[k]? = some l →
        t.shiftReg.getLsbD (8 - levels.length + k) = (l ^^ s.params.sampleInvert)) ∧
      (levels.length < 8 → t.rxState = .receiving ∧ t.bitCnt.toNat = levels.length ∧ t.rxByte = s.rxByte) ∧
      (levels.length = 8 → t.rxState = .byteReady ∧ t.rxByte = t.shiftReg)

/-- The timer's period (R152, which the spec derives from its own counting law D4): `n` ticks bring the counter `n`
places on as long as it stays below the compare value, and the tick that reaches it clears the counter and sets the
flag. -/
def Obligations.TimerMatchesAfterItsPeriod : Prop :=
  ∀ (s : State) (n : Nat), s.tmrEn = true → s.tmrCnt < s.tmrCmp → s.tmrCmp < 2 ^ s.params.tmrW →
    (s.tmrCnt + n < s.tmrCmp → ∃ t, advAll n s = .next t ∧ t.tmrCnt = s.tmrCnt + n ∧ t.tmrFlag = s.tmrFlag ∧
      t.tmrEn = true ∧ t.tmrCmp = s.tmrCmp ∧ t.time = s.time + n) ∧
    (s.tmrCnt + n = s.tmrCmp → ∃ t, advAll n s = .next t ∧ t.tmrCnt = 0 ∧ t.tmrFlag = true ∧
      t.tmrEn = true ∧ t.tmrCmp = s.tmrCmp ∧ t.time = s.time + n)

/-- Item 4 of R49 (derived): from the start of a frame, with no `INIT`, `CLR` or new `EDGE`, `bit_cnt` is the number
of `TICK`s performed, whatever the line, the clock and the consumer's reads do; the eighth `TICK` completes the
byte, and there is no ninth. -/
def Obligations.BitCounterCountsTheTicks : Prop :=
  ∀ (s t : State) (ops : List Instr), s.rxState = .receiving → s.bitCnt = 0 →
    (∀ i ∈ ops, i ≠ .init ∧ i ≠ .clr ∧ i ≠ .edge) → performAll ops s = .next t →
    ops.count .tick ≤ 8 ∧
    (ops.count .tick < 8 → t.rxState = .receiving ∧ t.bitCnt.toNat = ops.count .tick) ∧
    (ops.count .tick = 8 → t.rxState = .byteReady ∧ t.bitCnt = 0)

/-- The instants of the samples (R161, which the spec derives; the delivery rule is its own, D17): counted from a
start transition whose `EDGE` is just due, the `k`th sample's `TICK` can be performed only `FIRST_CMP + k *
BIT_TICKS` to `FIRST_CMP + k * BIT_TICKS + 2 * LAT_MAX` ticks later. -/
def Obligations.SamplesFallWithinTheLatency : Prop :=
  ∀ (s t u : State) (ops : List Instr), RunInvariant s → deliverable .edge s = true → s.waited = 0 →
    (∀ i ∈ ops, i ≠ .init ∧ i ≠ .clr) → ops.count .edge = 1 → performAll ops s = .next t →
    perform .tick t = .next u →
    s.time + sampleInstant s.params 0 0 0 t.bitCnt.toNat ≤ t.time ∧
    t.time ≤ s.time + sampleInstant s.params 0 s.params.latMax s.params.latMax t.bitCnt.toNat

/-! ### The consumer's read port -/

/-- `RDST` (R180; the codes, D21, and the word, D20, are the spec's own): its word, its agent, the value it returns
and that it writes no state; before the first `INIT` the value is unspecified (it holds for every value of the
draw). -/
def Obligations.RdstReturnsTheReceiveState : Prop :=
  encode .rdst = 0x50#8 ∧ Instr.rdst.agent = .consumer ∧
  RxState.idle.code = 0 ∧ RxState.receiving.code = 1 ∧ RxState.byteReady.code = 2 ∧
  ∀ s : State,
    (s.started = true →
      exec .rdst s = .next { s with returns := s.returns ++ [.status s.rxState.code] }) ∧
    (s.started = false →
      exec .rdst s = .next
        { s with returns := s.returns ++ [.status (Config.drawRxState s.draws).code], draws := s.draws + 1 })

/-- `RDBYTE` (R182; that the value outside `ByteReady` is a draw is the spec's own, D2): its word, its agent, the
value it returns and that it writes no state. -/
def Obligations.RdbyteReturnsTheByteOrADraw : Prop :=
  encode .rdbyte = 0x60#8 ∧ Instr.rdbyte.agent = .consumer ∧
  ∀ s : State,
    (s.started = true → s.rxState = .byteReady →
      exec .rdbyte s = .next { s with returns := s.returns ++ [.byte s.rxByte] }) ∧
    (¬(s.started = true ∧ s.rxState = .byteReady) →
      exec .rdbyte s = .next
        { s with returns := s.returns ++ [.draw (Config.draw8 s.draws)], draws := s.draws + 1 })

/-- `CLR` (R184; that the write is unconditional, D16, that the wedge follows, D10, and the word, D20, are the
spec's own): its word, its agent, and its one unconditional write; in `Receiving`, with the enables as they are
there, that write leaves the receiver wedged. -/
def Obligations.ClrWritesIdle : Prop :=
  encode .clr = 0x70#8 ∧ Instr.clr.agent = .consumer ∧
  (∀ s : State, exec .clr s = .next { s with rxState := .idle }) ∧
  ∀ s t : State, s.rxState = .receiving → s.tmrEn = true → s.edgeEn = false → exec .clr s = .next t → Wedged t

/-- Reading does not release and may be repeated (R76, which the spec derives): in `ByteReady` two reads return the
same byte and the same state, and outside it they are two separate draws. -/
def Obligations.ReadsMayBeRepeated : Prop :=
  ∀ s t u : State, s.started = true →
    (exec .rdst s = .next t → exec .rdst t = .next u →
      u = { s with returns := s.returns ++ [.status s.rxState.code, .status s.rxState.code] }) ∧
    (s.rxState = .byteReady → exec .rdbyte s = .next t → exec .rdbyte t = .next u →
      u = { s with returns := s.returns ++ [.byte s.rxByte, .byte s.rxByte] }) ∧
    (s.rxState ≠ .byteReady → exec .rdbyte s = .next t → exec .rdbyte t = .next u →
      u = { s with
        returns := s.returns ++ [.draw (Config.draw8 s.draws), .draw (Config.draw8 (s.draws + 1))]
        draws := s.draws + 2 })

/-- `POLL` with no other agent between its parts (R186; its three accesses and their order are the spec's own, D16):
from `ByteReady` the byte, and `Idle` with everything else unchanged; otherwise nothing, and no change. -/
def Obligations.PollReturnsTheByteAndReleases : Prop :=
  ∀ s : State, s.params.wellFormed = true → s.started = true →
    (s.rxState = .byteReady → poll s = .next (some s.rxByte,
      { s with rxState := .idle, returns := s.returns ++ [.status 2, .byte s.rxByte] })) ∧
    (s.rxState ≠ .byteReady → poll s = .next (none,
      { s with returns := s.returns ++ [.status s.rxState.code] }))

/-- R206 (the delivery rule is the spec's own, D17): "a consumer operation commutes with LINE, ADV and the guard of
either handler". -/
def Obligations.ConsumerCommutesWithTheEnvironment : Prop :=
  ∀ (c e : Instr) (s : State), isConsumer c → isEnvironment e = true →
    andThen (exec c s) (exec e) = andThen (exec e s) (exec c) ∧
    ∀ t, exec c s = .next t → ∀ irq, deliverable irq t = deliverable irq s

/-- "At most once" (R80, with the transitions of R123, which the spec derives): from `Idle`, `ByteReady` is reached
again only through a start edge and at least eight samples. -/
def Obligations.ByteReadyNeedsAWholeFrame : Prop :=
  ∀ (s t : State) (ops : List Instr), s.rxState = .idle → performAll ops s = .next t →
    t.rxState = .byteReady → 1 ≤ ops.count .edge ∧ 8 ≤ ops.count .tick

/-! ### Who writes and who reads each value -/

/-- R34: `rx_byte` is written only by `TICK` on the eighth sample, which overwrites it whether or not the old byte
was read; it is read only by `RDBYTE`, which does not change it. -/
def Obligations.HoldingRegisterIsTheLastCompletion : Prop :=
  (∀ (i : Instr) (s t : State), exec i s = .next t →
    t.rxByte = if i = .tick ∧ s.rxState = .receiving ∧ s.bitCnt = 7 then t.shiftReg else s.rxByte) ∧
  ∀ (i : Instr) (s : State) (b : Byte), i ≠ .rdbyte →
    ∃ b' : Byte, exec i { s with rxByte := b } = mapNext (fun t => { t with rxByte := b' }) (exec i s)

/-- `shift_reg` (R33) is written only by `TICK`, which in `Receiving` shifts right and ORs the sample in at the top,
and read only by `TICK`; eight shifts discard every bit it held. That the sample is `line xor SAMPLE_INVERT` (R92,
D9) and that a `TICK` outside `Receiving` leaves the register (R157, D10) are the spec's own choices. -/
def Obligations.ShiftRegisterBelongsToTick : Prop :=
  (∀ (i : Instr) (s : State) (r : Byte), i ≠ .tick →
    exec i { s with shiftReg := r } = mapNext (fun t => { t with shiftReg := r }) (exec i s)) ∧
  (∀ s t : State, exec .tick s = .next t →
    t.shiftReg = if s.rxState = .receiving
      then (s.shiftReg >>> 1) ||| (BitVec.ofBool (s.line ^^ s.params.sampleInvert) ++ 0b0000000#7)
      else s.shiftReg) ∧
  ∀ (samples : List Bool) (r r' : Byte), samples.length = 8 →
    samples.foldl (fun r b => shiftIn b r) r = samples.foldl (fun r b => shiftIn b r) r'

/-- `line` (R38; the spec's own model of the pin, D1) is an input: only `LINE v` changes it, no operation of the
block drives it (`INIT` among them), and besides `LINE`, which watches its changes, only `TICK` reads it. -/
def Obligations.LineIsAnInput : Prop :=
  (∀ (i : Instr) (s t : State), exec i s = .next t →
    t.line = match i with
      | .line v => v
      | .init | .adv | .edge | .tick | .rdst | .rdbyte | .clr => s.line) ∧
  ∀ (i : Instr) (s : State) (v : Level), i ≠ .tick → (∀ l, i ≠ .line l) →
    exec i { s with line := v } = mapNext (fun t => { t with line := v }) (exec i s)

/-- The edge interrupt (R203; latching while disabled and clearing on entry are the spec's own, D12, D13): what sets
and clears the edge interrupt's enable and pending bits, operation by operation, and its handler's guard. -/
def Obligations.EdgeInterruptEnableAndFlag : Prop :=
  (∀ (i : Instr) (s t : State), exec i s = .next t →
    t.edgeEn = (match i with
      | .init => true
      | .edge => false
      | .tick => if s.rxState = .receiving ∧ s.bitCnt = 7 then true else s.edgeEn
      | .line _ | .adv | .rdst | .rdbyte | .clr => s.edgeEn) ∧
    t.edgeFlag = match i with
      | .init | .edge => false
      | .line v => if s.line = (!s.params.startLevel) ∧ v = s.params.startLevel then true else s.edgeFlag
      | .tick => if s.rxState = .receiving ∧ s.bitCnt = 7 then false else s.edgeFlag
      | .adv | .rdst | .rdbyte | .clr => s.edgeFlag) ∧
  ∀ s : State, (∃ t, exec .edge s = .next t) ↔ s.edgeEn = true ∧ s.edgeFlag = true

/-- The timer interrupt (R204; its flag and its standstill are the spec's own, D4, D5, D14): what sets and clears
the timer interrupt's enable and pending bits, operation by operation, its handler's guard, and that the counter
stands still while it is disabled. -/
def Obligations.TimerInterruptEnableAndFlag : Prop :=
  (∀ (i : Instr) (s t : State), exec i s = .next t →
    t.tmrEn = (match i with
      | .init => false
      | .edge => true
      | .tick => if s.rxState = .receiving ∧ s.bitCnt = 7 then false else s.tmrEn
      | .line _ | .adv | .rdst | .rdbyte | .clr => s.tmrEn) ∧
    t.tmrFlag = match i with
      | .init | .edge | .tick => false
      | .adv => if s.tmrEn = true ∧ (s.tmrCnt + 1) % 2 ^ s.params.tmrW = s.tmrCmp then true else s.tmrFlag
      | .line _ | .rdst | .rdbyte | .clr => s.tmrFlag) ∧
  (∀ s : State, (∃ t, exec .tick s = .next t) ↔ s.tmrEn = true ∧ s.tmrFlag = true) ∧
  ∀ s t : State, s.tmrEn = false → exec .adv s = .next t → t.tmrCnt = s.tmrCnt

/-- R202: an interrupt is deliverable when its enable bit and its pending flag are both 1, and its handler's guard
is exactly that. -/
def Obligations.HandlerGuardIsDeliverability : Prop :=
  ∀ s : State,
    (deliverable .edge s = true ↔ s.edgeEn = true ∧ s.edgeFlag = true) ∧
    (deliverable .timer s = true ↔ s.tmrEn = true ∧ s.tmrFlag = true) ∧
    ((∃ t, exec .edge s = .next t) ↔ deliverable .edge s = true) ∧
    ((∃ t, exec .tick s = .next t) ↔ deliverable .timer s = true)

/-- The transition table of `rx_state` (R123, which the spec derives): "no operation makes any other change". -/
def Obligations.ReceiveStateTransitions : Prop :=
  ∀ (i : Instr) (s t : State), exec i s = .next t →
    t.rxState = match i with
      | .init | .clr => .idle
      | .edge => .receiving
      | .tick => if s.rxState = .receiving ∧ s.bitCnt = 7 then .byteReady else s.rxState
      | .line _ | .adv | .rdst | .rdbyte => s.rxState

/-- The access tables of R36 and R46 (the spec's own fields, D22; derived), as what each operation leaves unchanged;
`started`, `time`, `waited`, `draws` and `returns` are the model's own fields, log entries 9, 10, 12 and 13. No
operation touches the parameters or the trace. -/
def Obligations.EachOperationWritesOnlyItsFields : Prop :=
  ∀ (i : Instr) (s t : State), exec i s = .next t →
    match i with
    | .init => t = { s with
        rxState := t.rxState, edgeEn := t.edgeEn, edgeFlag := t.edgeFlag, tmrEn := t.tmrEn, tmrFlag := t.tmrFlag
        tmrCnt := t.tmrCnt, started := t.started, time := t.time, waited := t.waited }
    | .line _ => t = { s with line := t.line, edgeFlag := t.edgeFlag }
    | .adv => t = { s with tmrFlag := t.tmrFlag, tmrCnt := t.tmrCnt, time := t.time, waited := t.waited }
    | .edge => t = { s with
        rxState := t.rxState, bitCnt := t.bitCnt, edgeEn := t.edgeEn, edgeFlag := t.edgeFlag, tmrEn := t.tmrEn
        tmrFlag := t.tmrFlag, tmrCnt := t.tmrCnt, tmrCmp := t.tmrCmp, waited := t.waited }
    | .tick => t = { s with
        rxState := t.rxState, bitCnt := t.bitCnt, shiftReg := t.shiftReg, rxByte := t.rxByte, edgeEn := t.edgeEn
        edgeFlag := t.edgeFlag, tmrEn := t.tmrEn, tmrFlag := t.tmrFlag, tmrCmp := t.tmrCmp, waited := t.waited }
    | .rdst | .rdbyte => t = { s with returns := t.returns, draws := t.draws }
    | .clr => t = { s with rxState := t.rxState }

/-! ### Runs -/

/-- The delivery rule (R206, the spec's own, D17): an `ADV` of a run is refused exactly when a handler is
deliverable and has already waited `LAT_MAX` ticks. Counting the wait in a field is the model's choice, log entry
10. -/
def Obligations.AdvWaitsForAnOverdueHandler : Prop :=
  ∀ s : State, s.params.wellFormed = true → s.started = true →
    (awaitsHandler s = true → s.params.latMax ≤ s.waited → perform .adv s = .refused .handlerOverdue) ∧
    (¬(awaitsHandler s = true ∧ s.params.latMax ≤ s.waited) → perform .adv s = exec .adv s)

/-- R207 (the spec's own, D18): where both guards hold, which no run reaches, `EDGE` steps first and voids the
pending match. The refusal of `TICK` there is the model's choice, log entry 11. -/
def Obligations.EdgeStepsBeforeTick : Prop :=
  ∀ s : State, s.params.wellFormed = true → s.started = true → deliverable .edge s = true →
    deliverable .timer s = true →
    perform .tick s = .refused .edgeFirst ∧
    ∃ t, perform .edge s = .next t ∧ perform .tick t = .refused (.notEnabled .timer)

/-- Parameters outside the constraints of R10 (the treatment is the spec's own, U12): no operation of a run is
performed with them. -/
def Obligations.BadParametersInstantiateNothing : Prop :=
  ∀ (i : Instr) (s : State),
    (¬(0 < s.params.fCpu ∧ 0 < s.params.prescaler ∧ 2 ≤ s.params.bitTicks ∧ 1 ≤ s.params.halfBitTicks ∧
      s.params.halfBitTicks < s.params.bitTicks ∧ 0 < s.params.tmrW ∧
      s.params.bitTicks + s.params.halfBitTicks < 2 ^ s.params.tmrW ∧ s.params.latMax < s.params.halfBitTicks) ↔
      perform i s = .refused .notInstantiated)

/-- The invariants hold at reset (R49; that `State.reset` is the state after `INIT` is log entry 3). -/
def Obligations.InvariantsHoldAtReset : Prop := RunInvariant State.reset

/-- Every step keeps the invariants of R49 (which the spec derives), in the form that also carries the delivery rule
of R206. -/
def Obligations.EveryStepKeepsTheInvariants : Prop :=
  ∀ s t : State, RunInvariant s → step s = .next t → RunInvariant t

/-- R49: the invariants "hold in every state reachable from INIT", whatever the state `INIT` found. -/
def Obligations.InvariantsHoldInEveryStateReachedFromInit : Prop :=
  ∀ (s t : State) (ops : List Instr), s.tmrCmp < 2 ^ s.params.tmrW →
    performAll (.init :: ops) s = .next t → RunInvariant t ∧ ¬(deliverable .edge t = true ∧ deliverable .timer t = true)

/-- The consumer race (R243, which the spec derives; D10, D16): a start edge between the consumer's reads and its
`CLR` leaves the receiver wedged. -/
def Obligations.ClrAfterEdgeWedgesTheReceiver : Prop :=
  ∀ s : State, RunInvariant s → s.rxState = .byteReady → s.edgeFlag = true →
    ∃ t, performAll [.rdst, .rdbyte, .edge, .clr] s = .next t ∧ Wedged t ∧
      t.returns = s.returns ++ [.status 2, .byte s.rxByte]

/-- The wedge has one way out (R243, which the spec derives; D10): every step from a wedged state whose word is not
that of `INIT` leads to a wedged state. -/
def Obligations.EveryStepButInitKeepsTheWedge : Prop :=
  ∀ s t : State, Wedged s → s.trace.head? ≠ some 0x00#8 → step s = .next t → Wedged t

/-- A wedged receiver (R243, which the spec derives; D10): in every run without `INIT` it delivers nothing more,
takes no sample, keeps its registers, and tells every `RDST` that it is `Idle`. -/
def Obligations.WedgedReceiverDeliversNothing : Prop :=
  ∀ (s t : State) (ops : List Instr), Wedged s → s.started = true → .init ∉ ops → performAll ops s = .next t →
    Wedged t ∧ t.rxByte = s.rxByte ∧ t.shiftReg = s.shiftReg ∧ t.bitCnt = s.bitCnt ∧ t.delivered = s.delivered ∧
    ∃ new, t.returns = s.returns ++ new ∧ ∀ c, Returned.status c ∈ new → c = 0

/-! ### Frames -/

/-- A frame with every handler delivered at once (R162 and part 3 of 95_test_vectors.md, which the spec derives):
from any ready state, for every byte and all admissible parameters, the trace of `FRAME D` runs to its end and
leaves the block with the byte, ready for the next frame. -/
def Obligations.PromptFrameIsDelivered : Prop :=
  ∀ (s : State) (D : Byte), ReadyForFrame s →
    performAll (promptFrame s.params D) s = .next
      { s with
        rxState := .byteReady, bitCnt := 0, shiftReg := D, rxByte := D, tmrCnt := 0
        tmrCmp := s.params.bitTicks, time := s.time + 9 * s.params.bitTicks }

/-- The mid-bit theorem and the rate tolerance (R162, R163, which the spec derives): the environment plays a frame
whose bit period is `P` ticks; handlers come with any delays the delivery rule allows and the consumer reads as it
likes; if every sample falls strictly inside its cell for every delay up to `2 * LAT_MAX`, then a run of it that
reaches its end has the byte in the holding register. -/
def Obligations.FrameWithinToleranceIsDelivered : Prop :=
  ∀ (s t : State) (D : Byte) (P : Nat) (ops : List Instr), ReadyForFrame s →
    (∀ d k, d ≤ 2 * s.params.latMax → k < 8 → readsItsCell s.params P d k) →
    (∀ i ∈ ops, i ≠ .init ∧ i ≠ .clr) → ops.filter isEnvironment = frameAtRate s.params D P →
    performAll ops s = .next t → t.rxState = .byteReady ∧ t.rxByte = D

/-- The latency budget (R237, which the spec derives): `2 * LAT_MAX < BIT_TICKS - HALF_BIT_TICKS` "is enough" for
every sample of an ideally timed frame to fall strictly inside its cell. -/
def Obligations.LatencyBudgetKeepsSamplesInTheirCells : Prop :=
  ∀ p : Params, p.wellFormed = true → 2 * p.latMax < p.bitTicks - p.halfBitTicks →
    ∀ d k, d ≤ 2 * p.latMax → k < 8 → readsItsCell p p.bitTicks d k
end

