-- ==== Sys2Proof/Laws/State.lean ====
section
/-! SUPPORT. One lemma per field per update of the state, so that no later proof unfolds a record update. -/

namespace Sys2Proof.Machine

/-! ### `acknowledge .edge s` -/

@[simp] theorem acknowledgeEdge_rxState (s : State) : (acknowledge .edge s).rxState = s.rxState := rfl
@[simp] theorem acknowledgeEdge_bitCnt (s : State) : (acknowledge .edge s).bitCnt = s.bitCnt := rfl
@[simp] theorem acknowledgeEdge_shiftReg (s : State) : (acknowledge .edge s).shiftReg = s.shiftReg := rfl
@[simp] theorem acknowledgeEdge_rxByte (s : State) : (acknowledge .edge s).rxByte = s.rxByte := rfl
@[simp] theorem acknowledgeEdge_line (s : State) : (acknowledge .edge s).line = s.line := rfl
@[simp] theorem acknowledgeEdge_edgeEn (s : State) : (acknowledge .edge s).edgeEn = s.edgeEn := rfl
@[simp] theorem acknowledgeEdge_edgeFlag (s : State) : (acknowledge .edge s).edgeFlag = false := rfl
@[simp] theorem acknowledgeEdge_tmrEn (s : State) : (acknowledge .edge s).tmrEn = s.tmrEn := rfl
@[simp] theorem acknowledgeEdge_tmrFlag (s : State) : (acknowledge .edge s).tmrFlag = s.tmrFlag := rfl
@[simp] theorem acknowledgeEdge_tmrCnt (s : State) : (acknowledge .edge s).tmrCnt = s.tmrCnt := rfl
@[simp] theorem acknowledgeEdge_tmrCmp (s : State) : (acknowledge .edge s).tmrCmp = s.tmrCmp := rfl
@[simp] theorem acknowledgeEdge_params (s : State) : (acknowledge .edge s).params = s.params := rfl
@[simp] theorem acknowledgeEdge_started (s : State) : (acknowledge .edge s).started = s.started := rfl
@[simp] theorem acknowledgeEdge_time (s : State) : (acknowledge .edge s).time = s.time := rfl
@[simp] theorem acknowledgeEdge_waited (s : State) : (acknowledge .edge s).waited = 0 := rfl
@[simp] theorem acknowledgeEdge_draws (s : State) : (acknowledge .edge s).draws = s.draws := rfl
@[simp] theorem acknowledgeEdge_returns (s : State) : (acknowledge .edge s).returns = s.returns := rfl
@[simp] theorem acknowledgeEdge_trace (s : State) : (acknowledge .edge s).trace = s.trace := rfl

/-! ### `acknowledge .timer s` -/

@[simp] theorem acknowledgeTimer_rxState (s : State) : (acknowledge .timer s).rxState = s.rxState := rfl
@[simp] theorem acknowledgeTimer_bitCnt (s : State) : (acknowledge .timer s).bitCnt = s.bitCnt := rfl
@[simp] theorem acknowledgeTimer_shiftReg (s : State) : (acknowledge .timer s).shiftReg = s.shiftReg := rfl
@[simp] theorem acknowledgeTimer_rxByte (s : State) : (acknowledge .timer s).rxByte = s.rxByte := rfl
@[simp] theorem acknowledgeTimer_line (s : State) : (acknowledge .timer s).line = s.line := rfl
@[simp] theorem acknowledgeTimer_edgeEn (s : State) : (acknowledge .timer s).edgeEn = s.edgeEn := rfl
@[simp] theorem acknowledgeTimer_edgeFlag (s : State) : (acknowledge .timer s).edgeFlag = s.edgeFlag := rfl
@[simp] theorem acknowledgeTimer_tmrEn (s : State) : (acknowledge .timer s).tmrEn = s.tmrEn := rfl
@[simp] theorem acknowledgeTimer_tmrFlag (s : State) : (acknowledge .timer s).tmrFlag = false := rfl
@[simp] theorem acknowledgeTimer_tmrCnt (s : State) : (acknowledge .timer s).tmrCnt = s.tmrCnt := rfl
@[simp] theorem acknowledgeTimer_tmrCmp (s : State) : (acknowledge .timer s).tmrCmp = s.tmrCmp := rfl
@[simp] theorem acknowledgeTimer_params (s : State) : (acknowledge .timer s).params = s.params := rfl
@[simp] theorem acknowledgeTimer_started (s : State) : (acknowledge .timer s).started = s.started := rfl
@[simp] theorem acknowledgeTimer_time (s : State) : (acknowledge .timer s).time = s.time := rfl
@[simp] theorem acknowledgeTimer_waited (s : State) : (acknowledge .timer s).waited = 0 := rfl
@[simp] theorem acknowledgeTimer_draws (s : State) : (acknowledge .timer s).draws = s.draws := rfl
@[simp] theorem acknowledgeTimer_returns (s : State) : (acknowledge .timer s).returns = s.returns := rfl
@[simp] theorem acknowledgeTimer_trace (s : State) : (acknowledge .timer s).trace = s.trace := rfl

/-! ### `initialise s` -/

@[simp] theorem initialise_rxState (s : State) : (initialise s).rxState = .idle := rfl
@[simp] theorem initialise_bitCnt (s : State) : (initialise s).bitCnt = s.bitCnt := rfl
@[simp] theorem initialise_shiftReg (s : State) : (initialise s).shiftReg = s.shiftReg := rfl
@[simp] theorem initialise_rxByte (s : State) : (initialise s).rxByte = s.rxByte := rfl
@[simp] theorem initialise_line (s : State) : (initialise s).line = s.line := rfl
@[simp] theorem initialise_edgeEn (s : State) : (initialise s).edgeEn = true := rfl
@[simp] theorem initialise_edgeFlag (s : State) : (initialise s).edgeFlag = false := rfl
@[simp] theorem initialise_tmrEn (s : State) : (initialise s).tmrEn = false := rfl
@[simp] theorem initialise_tmrFlag (s : State) : (initialise s).tmrFlag = false := rfl
@[simp] theorem initialise_tmrCnt (s : State) : (initialise s).tmrCnt = 0 := rfl
@[simp] theorem initialise_tmrCmp (s : State) : (initialise s).tmrCmp = s.tmrCmp := rfl
@[simp] theorem initialise_params (s : State) : (initialise s).params = s.params := rfl
@[simp] theorem initialise_started (s : State) : (initialise s).started = true := rfl
@[simp] theorem initialise_time (s : State) : (initialise s).time = 0 := rfl
@[simp] theorem initialise_waited (s : State) : (initialise s).waited = 0 := rfl
@[simp] theorem initialise_draws (s : State) : (initialise s).draws = s.draws := rfl
@[simp] theorem initialise_returns (s : State) : (initialise s).returns = s.returns := rfl
@[simp] theorem initialise_trace (s : State) : (initialise s).trace = s.trace := rfl

/-! ### `driveLine v s` -/

@[simp] theorem driveLine_rxState (s : State) (v : Level) : (driveLine v s).rxState = s.rxState := rfl
@[simp] theorem driveLine_bitCnt (s : State) (v : Level) : (driveLine v s).bitCnt = s.bitCnt := rfl
@[simp] theorem driveLine_shiftReg (s : State) (v : Level) : (driveLine v s).shiftReg = s.shiftReg := rfl
@[simp] theorem driveLine_rxByte (s : State) (v : Level) : (driveLine v s).rxByte = s.rxByte := rfl
@[simp] theorem driveLine_line (s : State) (v : Level) : (driveLine v s).line = v := rfl
@[simp] theorem driveLine_edgeEn (s : State) (v : Level) : (driveLine v s).edgeEn = s.edgeEn := rfl
@[simp] theorem driveLine_edgeFlag (s : State) (v : Level) : (driveLine v s).edgeFlag = (s.edgeFlag || startTransition s.params s.line v) := rfl
@[simp] theorem driveLine_tmrEn (s : State) (v : Level) : (driveLine v s).tmrEn = s.tmrEn := rfl
@[simp] theorem driveLine_tmrFlag (s : State) (v : Level) : (driveLine v s).tmrFlag = s.tmrFlag := rfl
@[simp] theorem driveLine_tmrCnt (s : State) (v : Level) : (driveLine v s).tmrCnt = s.tmrCnt := rfl
@[simp] theorem driveLine_tmrCmp (s : State) (v : Level) : (driveLine v s).tmrCmp = s.tmrCmp := rfl
@[simp] theorem driveLine_params (s : State) (v : Level) : (driveLine v s).params = s.params := rfl
@[simp] theorem driveLine_started (s : State) (v : Level) : (driveLine v s).started = s.started := rfl
@[simp] theorem driveLine_time (s : State) (v : Level) : (driveLine v s).time = s.time := rfl
@[simp] theorem driveLine_waited (s : State) (v : Level) : (driveLine v s).waited = s.waited := rfl
@[simp] theorem driveLine_draws (s : State) (v : Level) : (driveLine v s).draws = s.draws := rfl
@[simp] theorem driveLine_returns (s : State) (v : Level) : (driveLine v s).returns = s.returns := rfl
@[simp] theorem driveLine_trace (s : State) (v : Level) : (driveLine v s).trace = s.trace := rfl

/-! ### `disableEdge s` -/

@[simp] theorem disableEdge_rxState (s : State) : (disableEdge s).rxState = s.rxState := rfl
@[simp] theorem disableEdge_bitCnt (s : State) : (disableEdge s).bitCnt = s.bitCnt := rfl
@[simp] theorem disableEdge_shiftReg (s : State) : (disableEdge s).shiftReg = s.shiftReg := rfl
@[simp] theorem disableEdge_rxByte (s : State) : (disableEdge s).rxByte = s.rxByte := rfl
@[simp] theorem disableEdge_line (s : State) : (disableEdge s).line = s.line := rfl
@[simp] theorem disableEdge_edgeEn (s : State) : (disableEdge s).edgeEn = false := rfl
@[simp] theorem disableEdge_edgeFlag (s : State) : (disableEdge s).edgeFlag = s.edgeFlag := rfl
@[simp] theorem disableEdge_tmrEn (s : State) : (disableEdge s).tmrEn = s.tmrEn := rfl
@[simp] theorem disableEdge_tmrFlag (s : State) : (disableEdge s).tmrFlag = s.tmrFlag := rfl
@[simp] theorem disableEdge_tmrCnt (s : State) : (disableEdge s).tmrCnt = s.tmrCnt := rfl
@[simp] theorem disableEdge_tmrCmp (s : State) : (disableEdge s).tmrCmp = s.tmrCmp := rfl
@[simp] theorem disableEdge_params (s : State) : (disableEdge s).params = s.params := rfl
@[simp] theorem disableEdge_started (s : State) : (disableEdge s).started = s.started := rfl
@[simp] theorem disableEdge_time (s : State) : (disableEdge s).time = s.time := rfl
@[simp] theorem disableEdge_waited (s : State) : (disableEdge s).waited = s.waited := rfl
@[simp] theorem disableEdge_draws (s : State) : (disableEdge s).draws = s.draws := rfl
@[simp] theorem disableEdge_returns (s : State) : (disableEdge s).returns = s.returns := rfl
@[simp] theorem disableEdge_trace (s : State) : (disableEdge s).trace = s.trace := rfl

/-! ### `restartTimer s` -/

@[simp] theorem restartTimer_rxState (s : State) : (restartTimer s).rxState = s.rxState := rfl
@[simp] theorem restartTimer_bitCnt (s : State) : (restartTimer s).bitCnt = s.bitCnt := rfl
@[simp] theorem restartTimer_shiftReg (s : State) : (restartTimer s).shiftReg = s.shiftReg := rfl
@[simp] theorem restartTimer_rxByte (s : State) : (restartTimer s).rxByte = s.rxByte := rfl
@[simp] theorem restartTimer_line (s : State) : (restartTimer s).line = s.line := rfl
@[simp] theorem restartTimer_edgeEn (s : State) : (restartTimer s).edgeEn = s.edgeEn := rfl
@[simp] theorem restartTimer_edgeFlag (s : State) : (restartTimer s).edgeFlag = s.edgeFlag := rfl
@[simp] theorem restartTimer_tmrEn (s : State) : (restartTimer s).tmrEn = true := rfl
@[simp] theorem restartTimer_tmrFlag (s : State) : (restartTimer s).tmrFlag = false := rfl
@[simp] theorem restartTimer_tmrCnt (s : State) : (restartTimer s).tmrCnt = 0 := rfl
@[simp] theorem restartTimer_tmrCmp (s : State) : (restartTimer s).tmrCmp = s.params.timerWord s.params.firstCmp := rfl
@[simp] theorem restartTimer_params (s : State) : (restartTimer s).params = s.params := rfl
@[simp] theorem restartTimer_started (s : State) : (restartTimer s).started = s.started := rfl
@[simp] theorem restartTimer_time (s : State) : (restartTimer s).time = s.time := rfl
@[simp] theorem restartTimer_waited (s : State) : (restartTimer s).waited = s.waited := rfl
@[simp] theorem restartTimer_draws (s : State) : (restartTimer s).draws = s.draws := rfl
@[simp] theorem restartTimer_returns (s : State) : (restartTimer s).returns = s.returns := rfl
@[simp] theorem restartTimer_trace (s : State) : (restartTimer s).trace = s.trace := rfl

/-! ### `beginFrame s` -/

@[simp] theorem beginFrame_rxState (s : State) : (beginFrame s).rxState = .receiving := rfl
@[simp] theorem beginFrame_bitCnt (s : State) : (beginFrame s).bitCnt = 0 := rfl
@[simp] theorem beginFrame_shiftReg (s : State) : (beginFrame s).shiftReg = s.shiftReg := rfl
@[simp] theorem beginFrame_rxByte (s : State) : (beginFrame s).rxByte = s.rxByte := rfl
@[simp] theorem beginFrame_line (s : State) : (beginFrame s).line = s.line := rfl
@[simp] theorem beginFrame_edgeEn (s : State) : (beginFrame s).edgeEn = s.edgeEn := rfl
@[simp] theorem beginFrame_edgeFlag (s : State) : (beginFrame s).edgeFlag = s.edgeFlag := rfl
@[simp] theorem beginFrame_tmrEn (s : State) : (beginFrame s).tmrEn = s.tmrEn := rfl
@[simp] theorem beginFrame_tmrFlag (s : State) : (beginFrame s).tmrFlag = s.tmrFlag := rfl
@[simp] theorem beginFrame_tmrCnt (s : State) : (beginFrame s).tmrCnt = s.tmrCnt := rfl
@[simp] theorem beginFrame_tmrCmp (s : State) : (beginFrame s).tmrCmp = s.tmrCmp := rfl
@[simp] theorem beginFrame_params (s : State) : (beginFrame s).params = s.params := rfl
@[simp] theorem beginFrame_started (s : State) : (beginFrame s).started = s.started := rfl
@[simp] theorem beginFrame_time (s : State) : (beginFrame s).time = s.time := rfl
@[simp] theorem beginFrame_waited (s : State) : (beginFrame s).waited = s.waited := rfl
@[simp] theorem beginFrame_draws (s : State) : (beginFrame s).draws = s.draws := rfl
@[simp] theorem beginFrame_returns (s : State) : (beginFrame s).returns = s.returns := rfl
@[simp] theorem beginFrame_trace (s : State) : (beginFrame s).trace = s.trace := rfl

/-! ### `passTick s` -/

@[simp] theorem passTick_rxState (s : State) : (passTick s).rxState = s.rxState := rfl
@[simp] theorem passTick_bitCnt (s : State) : (passTick s).bitCnt = s.bitCnt := rfl
@[simp] theorem passTick_shiftReg (s : State) : (passTick s).shiftReg = s.shiftReg := rfl
@[simp] theorem passTick_rxByte (s : State) : (passTick s).rxByte = s.rxByte := rfl
@[simp] theorem passTick_line (s : State) : (passTick s).line = s.line := rfl
@[simp] theorem passTick_edgeEn (s : State) : (passTick s).edgeEn = s.edgeEn := rfl
@[simp] theorem passTick_edgeFlag (s : State) : (passTick s).edgeFlag = s.edgeFlag := rfl
@[simp] theorem passTick_tmrEn (s : State) : (passTick s).tmrEn = s.tmrEn := rfl
@[simp] theorem passTick_tmrFlag (s : State) : (passTick s).tmrFlag = s.tmrFlag := rfl
@[simp] theorem passTick_tmrCnt (s : State) : (passTick s).tmrCnt = s.tmrCnt := rfl
@[simp] theorem passTick_tmrCmp (s : State) : (passTick s).tmrCmp = s.tmrCmp := rfl
@[simp] theorem passTick_params (s : State) : (passTick s).params = s.params := rfl
@[simp] theorem passTick_started (s : State) : (passTick s).started = s.started := rfl
@[simp] theorem passTick_time (s : State) : (passTick s).time = s.time + 1 := rfl
@[simp] theorem passTick_waited (s : State) : (passTick s).waited = if awaitsHandler s then s.waited + 1 else 0 := rfl
@[simp] theorem passTick_draws (s : State) : (passTick s).draws = s.draws := rfl
@[simp] theorem passTick_returns (s : State) : (passTick s).returns = s.returns := rfl
@[simp] theorem passTick_trace (s : State) : (passTick s).trace = s.trace := rfl

/-! ### `takeSample s` -/

@[simp] theorem takeSample_rxState (s : State) : (takeSample s).rxState = s.rxState := rfl
@[simp] theorem takeSample_bitCnt (s : State) : (takeSample s).bitCnt = s.bitCnt := rfl
@[simp] theorem takeSample_shiftReg (s : State) : (takeSample s).shiftReg = shiftIn (s.params.sampleBit s.line) s.shiftReg := rfl
@[simp] theorem takeSample_rxByte (s : State) : (takeSample s).rxByte = s.rxByte := rfl
@[simp] theorem takeSample_line (s : State) : (takeSample s).line = s.line := rfl
@[simp] theorem takeSample_edgeEn (s : State) : (takeSample s).edgeEn = s.edgeEn := rfl
@[simp] theorem takeSample_edgeFlag (s : State) : (takeSample s).edgeFlag = s.edgeFlag := rfl
@[simp] theorem takeSample_tmrEn (s : State) : (takeSample s).tmrEn = s.tmrEn := rfl
@[simp] theorem takeSample_tmrFlag (s : State) : (takeSample s).tmrFlag = s.tmrFlag := rfl
@[simp] theorem takeSample_tmrCnt (s : State) : (takeSample s).tmrCnt = s.tmrCnt := rfl
@[simp] theorem takeSample_tmrCmp (s : State) : (takeSample s).tmrCmp = s.params.timerWord s.params.bitTicks := rfl
@[simp] theorem takeSample_params (s : State) : (takeSample s).params = s.params := rfl
@[simp] theorem takeSample_started (s : State) : (takeSample s).started = s.started := rfl
@[simp] theorem takeSample_time (s : State) : (takeSample s).time = s.time := rfl
@[simp] theorem takeSample_waited (s : State) : (takeSample s).waited = s.waited := rfl
@[simp] theorem takeSample_draws (s : State) : (takeSample s).draws = s.draws := rfl
@[simp] theorem takeSample_returns (s : State) : (takeSample s).returns = s.returns := rfl
@[simp] theorem takeSample_trace (s : State) : (takeSample s).trace = s.trace := rfl

/-! ### `countSample s` -/

@[simp] theorem countSample_rxState (s : State) : (countSample s).rxState = s.rxState := rfl
@[simp] theorem countSample_bitCnt (s : State) : (countSample s).bitCnt = s.bitCnt + 1 := rfl
@[simp] theorem countSample_shiftReg (s : State) : (countSample s).shiftReg = s.shiftReg := rfl
@[simp] theorem countSample_rxByte (s : State) : (countSample s).rxByte = s.rxByte := rfl
@[simp] theorem countSample_line (s : State) : (countSample s).line = s.line := rfl
@[simp] theorem countSample_edgeEn (s : State) : (countSample s).edgeEn = s.edgeEn := rfl
@[simp] theorem countSample_edgeFlag (s : State) : (countSample s).edgeFlag = s.edgeFlag := rfl
@[simp] theorem countSample_tmrEn (s : State) : (countSample s).tmrEn = s.tmrEn := rfl
@[simp] theorem countSample_tmrFlag (s : State) : (countSample s).tmrFlag = s.tmrFlag := rfl
@[simp] theorem countSample_tmrCnt (s : State) : (countSample s).tmrCnt = s.tmrCnt := rfl
@[simp] theorem countSample_tmrCmp (s : State) : (countSample s).tmrCmp = s.tmrCmp := rfl
@[simp] theorem countSample_params (s : State) : (countSample s).params = s.params := rfl
@[simp] theorem countSample_started (s : State) : (countSample s).started = s.started := rfl
@[simp] theorem countSample_time (s : State) : (countSample s).time = s.time := rfl
@[simp] theorem countSample_waited (s : State) : (countSample s).waited = s.waited := rfl
@[simp] theorem countSample_draws (s : State) : (countSample s).draws = s.draws := rfl
@[simp] theorem countSample_returns (s : State) : (countSample s).returns = s.returns := rfl
@[simp] theorem countSample_trace (s : State) : (countSample s).trace = s.trace := rfl

/-! ### `publish s` -/

@[simp] theorem publish_rxState (s : State) : (publish s).rxState = .byteReady := rfl
@[simp] theorem publish_bitCnt (s : State) : (publish s).bitCnt = 0 := rfl
@[simp] theorem publish_shiftReg (s : State) : (publish s).shiftReg = s.shiftReg := rfl
@[simp] theorem publish_rxByte (s : State) : (publish s).rxByte = s.shiftReg := rfl
@[simp] theorem publish_line (s : State) : (publish s).line = s.line := rfl
@[simp] theorem publish_edgeEn (s : State) : (publish s).edgeEn = true := rfl
@[simp] theorem publish_edgeFlag (s : State) : (publish s).edgeFlag = false := rfl
@[simp] theorem publish_tmrEn (s : State) : (publish s).tmrEn = false := rfl
@[simp] theorem publish_tmrFlag (s : State) : (publish s).tmrFlag = s.tmrFlag := rfl
@[simp] theorem publish_tmrCnt (s : State) : (publish s).tmrCnt = s.tmrCnt := rfl
@[simp] theorem publish_tmrCmp (s : State) : (publish s).tmrCmp = s.tmrCmp := rfl
@[simp] theorem publish_params (s : State) : (publish s).params = s.params := rfl
@[simp] theorem publish_started (s : State) : (publish s).started = s.started := rfl
@[simp] theorem publish_time (s : State) : (publish s).time = s.time := rfl
@[simp] theorem publish_waited (s : State) : (publish s).waited = s.waited := rfl
@[simp] theorem publish_draws (s : State) : (publish s).draws = s.draws := rfl
@[simp] theorem publish_returns (s : State) : (publish s).returns = s.returns := rfl
@[simp] theorem publish_trace (s : State) : (publish s).trace = s.trace := rfl

/-! ### `release s` -/

@[simp] theorem release_rxState (s : State) : (release s).rxState = .idle := rfl
@[simp] theorem release_bitCnt (s : State) : (release s).bitCnt = s.bitCnt := rfl
@[simp] theorem release_shiftReg (s : State) : (release s).shiftReg = s.shiftReg := rfl
@[simp] theorem release_rxByte (s : State) : (release s).rxByte = s.rxByte := rfl
@[simp] theorem release_line (s : State) : (release s).line = s.line := rfl
@[simp] theorem release_edgeEn (s : State) : (release s).edgeEn = s.edgeEn := rfl
@[simp] theorem release_edgeFlag (s : State) : (release s).edgeFlag = s.edgeFlag := rfl
@[simp] theorem release_tmrEn (s : State) : (release s).tmrEn = s.tmrEn := rfl
@[simp] theorem release_tmrFlag (s : State) : (release s).tmrFlag = s.tmrFlag := rfl
@[simp] theorem release_tmrCnt (s : State) : (release s).tmrCnt = s.tmrCnt := rfl
@[simp] theorem release_tmrCmp (s : State) : (release s).tmrCmp = s.tmrCmp := rfl
@[simp] theorem release_params (s : State) : (release s).params = s.params := rfl
@[simp] theorem release_started (s : State) : (release s).started = s.started := rfl
@[simp] theorem release_time (s : State) : (release s).time = s.time := rfl
@[simp] theorem release_waited (s : State) : (release s).waited = s.waited := rfl
@[simp] theorem release_draws (s : State) : (release s).draws = s.draws := rfl
@[simp] theorem release_returns (s : State) : (release s).returns = s.returns := rfl
@[simp] theorem release_trace (s : State) : (release s).trace = s.trace := rfl

/-! ### `giveBack r s` -/

@[simp] theorem giveBack_rxState (s : State) (r : Returned) : (giveBack r s).rxState = s.rxState := rfl
@[simp] theorem giveBack_bitCnt (s : State) (r : Returned) : (giveBack r s).bitCnt = s.bitCnt := rfl
@[simp] theorem giveBack_shiftReg (s : State) (r : Returned) : (giveBack r s).shiftReg = s.shiftReg := rfl
@[simp] theorem giveBack_rxByte (s : State) (r : Returned) : (giveBack r s).rxByte = s.rxByte := rfl
@[simp] theorem giveBack_line (s : State) (r : Returned) : (giveBack r s).line = s.line := rfl
@[simp] theorem giveBack_edgeEn (s : State) (r : Returned) : (giveBack r s).edgeEn = s.edgeEn := rfl
@[simp] theorem giveBack_edgeFlag (s : State) (r : Returned) : (giveBack r s).edgeFlag = s.edgeFlag := rfl
@[simp] theorem giveBack_tmrEn (s : State) (r : Returned) : (giveBack r s).tmrEn = s.tmrEn := rfl
@[simp] theorem giveBack_tmrFlag (s : State) (r : Returned) : (giveBack r s).tmrFlag = s.tmrFlag := rfl
@[simp] theorem giveBack_tmrCnt (s : State) (r : Returned) : (giveBack r s).tmrCnt = s.tmrCnt := rfl
@[simp] theorem giveBack_tmrCmp (s : State) (r : Returned) : (giveBack r s).tmrCmp = s.tmrCmp := rfl
@[simp] theorem giveBack_params (s : State) (r : Returned) : (giveBack r s).params = s.params := rfl
@[simp] theorem giveBack_started (s : State) (r : Returned) : (giveBack r s).started = s.started := rfl
@[simp] theorem giveBack_time (s : State) (r : Returned) : (giveBack r s).time = s.time := rfl
@[simp] theorem giveBack_waited (s : State) (r : Returned) : (giveBack r s).waited = s.waited := rfl
@[simp] theorem giveBack_draws (s : State) (r : Returned) : (giveBack r s).draws = s.draws := rfl
@[simp] theorem giveBack_returns (s : State) (r : Returned) : (giveBack r s).returns = s.returns ++ [r] := rfl
@[simp] theorem giveBack_trace (s : State) (r : Returned) : (giveBack r s).trace = s.trace := rfl

/-! ### `countDraw s` -/

@[simp] theorem countDraw_rxState (s : State) : (countDraw s).rxState = s.rxState := rfl
@[simp] theorem countDraw_bitCnt (s : State) : (countDraw s).bitCnt = s.bitCnt := rfl
@[simp] theorem countDraw_shiftReg (s : State) : (countDraw s).shiftReg = s.shiftReg := rfl
@[simp] theorem countDraw_rxByte (s : State) : (countDraw s).rxByte = s.rxByte := rfl
@[simp] theorem countDraw_line (s : State) : (countDraw s).line = s.line := rfl
@[simp] theorem countDraw_edgeEn (s : State) : (countDraw s).edgeEn = s.edgeEn := rfl
@[simp] theorem countDraw_edgeFlag (s : State) : (countDraw s).edgeFlag = s.edgeFlag := rfl
@[simp] theorem countDraw_tmrEn (s : State) : (countDraw s).tmrEn = s.tmrEn := rfl
@[simp] theorem countDraw_tmrFlag (s : State) : (countDraw s).tmrFlag = s.tmrFlag := rfl
@[simp] theorem countDraw_tmrCnt (s : State) : (countDraw s).tmrCnt = s.tmrCnt := rfl
@[simp] theorem countDraw_tmrCmp (s : State) : (countDraw s).tmrCmp = s.tmrCmp := rfl
@[simp] theorem countDraw_params (s : State) : (countDraw s).params = s.params := rfl
@[simp] theorem countDraw_started (s : State) : (countDraw s).started = s.started := rfl
@[simp] theorem countDraw_time (s : State) : (countDraw s).time = s.time := rfl
@[simp] theorem countDraw_waited (s : State) : (countDraw s).waited = s.waited := rfl
@[simp] theorem countDraw_draws (s : State) : (countDraw s).draws = s.draws + 1 := rfl
@[simp] theorem countDraw_returns (s : State) : (countDraw s).returns = s.returns := rfl
@[simp] theorem countDraw_trace (s : State) : (countDraw s).trace = s.trace := rfl

/-! ### `clockTimer s` and `sampleLine s`, in the fields they never write -/

@[simp] theorem clockTimer_rxState (s : State) : (clockTimer s).rxState = s.rxState := by
  unfold clockTimer
  repeat' split
  all_goals rfl
@[simp] theorem clockTimer_bitCnt (s : State) : (clockTimer s).bitCnt = s.bitCnt := by
  unfold clockTimer
  repeat' split
  all_goals rfl
@[simp] theorem clockTimer_shiftReg (s : State) : (clockTimer s).shiftReg = s.shiftReg := by
  unfold clockTimer
  repeat' split
  all_goals rfl
@[simp] theorem clockTimer_rxByte (s : State) : (clockTimer s).rxByte = s.rxByte := by
  unfold clockTimer
  repeat' split
  all_goals rfl
@[simp] theorem clockTimer_line (s : State) : (clockTimer s).line = s.line := by
  unfold clockTimer
  repeat' split
  all_goals rfl
@[simp] theorem clockTimer_edgeEn (s : State) : (clockTimer s).edgeEn = s.edgeEn := by
  unfold clockTimer
  repeat' split
  all_goals rfl
@[simp] theorem clockTimer_edgeFlag (s : State) : (clockTimer s).edgeFlag = s.edgeFlag := by
  unfold clockTimer
  repeat' split
  all_goals rfl
@[simp] theorem clockTimer_tmrEn (s : State) : (clockTimer s).tmrEn = s.tmrEn := by
  unfold clockTimer
  repeat' split
  all_goals rfl
@[simp] theorem clockTimer_tmrCmp (s : State) : (clockTimer s).tmrCmp = s.tmrCmp := by
  unfold clockTimer
  repeat' split
  all_goals rfl
@[simp] theorem clockTimer_params (s : State) : (clockTimer s).params = s.params := by
  unfold clockTimer
  repeat' split
  all_goals rfl
@[simp] theorem clockTimer_started (s : State) : (clockTimer s).started = s.started := by
  unfold clockTimer
  repeat' split
  all_goals rfl
@[simp] theorem clockTimer_time (s : State) : (clockTimer s).time = s.time := by
  unfold clockTimer
  repeat' split
  all_goals rfl
@[simp] theorem clockTimer_waited (s : State) : (clockTimer s).waited = s.waited := by
  unfold clockTimer
  repeat' split
  all_goals rfl
@[simp] theorem clockTimer_draws (s : State) : (clockTimer s).draws = s.draws := by
  unfold clockTimer
  repeat' split
  all_goals rfl
@[simp] theorem clockTimer_returns (s : State) : (clockTimer s).returns = s.returns := by
  unfold clockTimer
  repeat' split
  all_goals rfl
@[simp] theorem clockTimer_trace (s : State) : (clockTimer s).trace = s.trace := by
  unfold clockTimer
  repeat' split
  all_goals rfl

@[simp] theorem sampleLine_line (s : State) : (sampleLine s).line = s.line := by
  unfold sampleLine
  repeat' split
  all_goals rfl
@[simp] theorem sampleLine_tmrFlag (s : State) : (sampleLine s).tmrFlag = s.tmrFlag := by
  unfold sampleLine
  repeat' split
  all_goals rfl
@[simp] theorem sampleLine_tmrCnt (s : State) : (sampleLine s).tmrCnt = s.tmrCnt := by
  unfold sampleLine
  repeat' split
  all_goals rfl
@[simp] theorem sampleLine_params (s : State) : (sampleLine s).params = s.params := by
  unfold sampleLine
  repeat' split
  all_goals rfl
@[simp] theorem sampleLine_started (s : State) : (sampleLine s).started = s.started := by
  unfold sampleLine
  repeat' split
  all_goals rfl
@[simp] theorem sampleLine_time (s : State) : (sampleLine s).time = s.time := by
  unfold sampleLine
  repeat' split
  all_goals rfl
@[simp] theorem sampleLine_waited (s : State) : (sampleLine s).waited = s.waited := by
  unfold sampleLine
  repeat' split
  all_goals rfl
@[simp] theorem sampleLine_draws (s : State) : (sampleLine s).draws = s.draws := by
  unfold sampleLine
  repeat' split
  all_goals rfl
@[simp] theorem sampleLine_returns (s : State) : (sampleLine s).returns = s.returns := by
  unfold sampleLine
  repeat' split
  all_goals rfl
@[simp] theorem sampleLine_trace (s : State) : (sampleLine s).trace = s.trace := by
  unfold sampleLine
  repeat' split
  all_goals rfl

end Sys2Proof.Machine
end

