-- ==== Sys2Proof/Laws/Ops.lean ====
section
/-! SUPPORT. What each shared operation can do, said once: sequencing, entering and leaving a handler, the timer, the
sample, admission to a run, the fetch and the step. -/

namespace Sys2Proof.Machine

open Host

/-! ### Sequencing -/

@[simp] theorem andThen_next {σ τ φ ρ : Type} (s : σ) (f : σ → Outcome τ φ ρ) : andThen (.next s) f = f s := rfl

@[simp] theorem andThen_refused {σ τ φ ρ : Type} (r : ρ) (f : σ → Outcome τ φ ρ) :
    andThen (.refused r) f = .refused r := rfl

theorem andThen_eq_next {σ τ φ ρ : Type} {o : Outcome σ φ ρ} {f : σ → Outcome τ φ ρ} {t : τ} :
    andThen o f = .next t ↔ ∃ s, o = .next s ∧ f s = .next t := by
  cases o <;> simp [andThen]

/-! ### Handlers -/

theorem enterHandler_of_deliverable {irq : Irq} {s : State} (h : deliverable irq s = true) :
    enterHandler irq s = .next (acknowledge irq s) := if_pos h

theorem enterHandler_of_not {irq : Irq} {s : State} (h : deliverable irq s = false) :
    enterHandler irq s = .refused (.notEnabled irq) := if_neg (by simp [h])

/-- Entering a handler answers a next state exactly when its interrupt is deliverable, and then only the request is
taken. -/
theorem enterHandler_eq_next {irq : Irq} {s t : State} :
    enterHandler irq s = .next t ↔ deliverable irq s = true ∧ t = acknowledge irq s := by
  unfold enterHandler
  cases deliverable irq s with
  | true => exact ⟨fun h => ⟨rfl, (Outcome.next.inj h).symm⟩, fun h => by rw [h.2]; rfl⟩
  | false => exact ⟨(nomatch ·), (nomatch ·.1)⟩

@[simp] theorem leaveHandler_eq (s : State) : leaveHandler s = .next s := rfl

@[simp] theorem deliverable_edge (s : State) : deliverable .edge s = (s.edgeEn && s.edgeFlag) := rfl

@[simp] theorem deliverable_timer (s : State) : deliverable .timer s = (s.tmrEn && s.tmrFlag) := rfl

@[simp] theorem awaitsHandler_eq (s : State) :
    awaitsHandler s = (s.edgeEn && s.edgeFlag || s.tmrEn && s.tmrFlag) := rfl

/-! ### The timer and the sample -/

theorem timerWord_of_lt {p : Params} {n : Nat} (h : n < 2 ^ p.tmrW) : p.timerWord n = n := Nat.mod_eq_of_lt h

theorem timerWord_lt (p : Params) (n : Nat) : p.timerWord n < 2 ^ p.tmrW :=
  Nat.mod_lt _ (Nat.two_pow_pos _)

/-- What one tick does to the timer: it stands still, counts, or matches. -/
theorem clockTimer_cases (s : State) :
    (s.tmrEn = false ∧ clockTimer s = s) ∨
    (s.tmrEn = true ∧ s.nextCount = s.tmrCmp ∧ clockTimer s = { s with tmrCnt := 0, tmrFlag := true }) ∨
    (s.tmrEn = true ∧ s.nextCount ≠ s.tmrCmp ∧ clockTimer s = { s with tmrCnt := s.nextCount }) := by
  unfold clockTimer
  split
  case isTrue h =>
    split
    case isTrue hm => exact .inr (.inl ⟨h, eq_of_beq hm, rfl⟩)
    case isFalse hm => exact .inr (.inr ⟨h, fun e => hm (beq_iff_eq.2 e), rfl⟩)
  case isFalse h => exact .inl ⟨by simpa using h, rfl⟩

/-- What the body of `TICK` does: nothing outside `Receiving`, the completion at the eighth sample, else one sample. -/
theorem sampleLine_cases (s : State) :
    (s.rxState ≠ .receiving ∧ sampleLine s = s) ∨
    (s.rxState = .receiving ∧ s.bitCnt = 7 ∧ sampleLine s = publish (takeSample s)) ∨
    (s.rxState = .receiving ∧ s.bitCnt ≠ 7 ∧ sampleLine s = countSample (takeSample s)) := by
  unfold sampleLine
  split
  case isTrue h =>
    split
    case isTrue hc => exact .inr (.inl ⟨h, hc, rfl⟩)
    case isFalse hc => exact .inr (.inr ⟨h, hc, rfl⟩)
  case isFalse h => exact .inl ⟨h, rfl⟩

/-! ### The parameters -/

/-- The constraints of R10, one by one. -/
theorem wellFormed_iff {p : Params} :
    p.wellFormed = true ↔ 0 < p.fCpu ∧ 0 < p.prescaler ∧ 2 ≤ p.bitTicks ∧ 1 ≤ p.halfBitTicks ∧
      p.halfBitTicks < p.bitTicks ∧ 0 < p.tmrW ∧ p.bitTicks + p.halfBitTicks < 2 ^ p.tmrW ∧
      p.latMax < p.halfBitTicks := by
  simp [Params.wellFormed, and_assoc]

theorem timerWord_firstCmp {p : Params} (h : p.wellFormed = true) : p.timerWord p.firstCmp = p.firstCmp :=
  timerWord_of_lt (wellFormed_iff.1 h).2.2.2.2.2.2.1

theorem timerWord_bitTicks {p : Params} (h : p.wellFormed = true) : p.timerWord p.bitTicks = p.bitTicks :=
  timerWord_of_lt (by have := wellFormed_iff.1 h; omega)

/-! ### Runs -/

/-- When an operation may be the next one of a run. -/
theorem objection_eq_none {i : Instr} {s : State} :
    objection i s = none ↔ s.params.wellFormed = true ∧ (s.started = true ∨ allowedBeforeInit i = true) ∧
      (i = .adv → overdue s = false) ∧
      (i = .tick → ¬(deliverable .edge s = true ∧ deliverable .timer s = true)) := by
  unfold objection
  cases s.started <;> repeat' split
  all_goals simp_all

theorem perform_of_no_objection {i : Instr} {s : State} (h : objection i s = none) : perform i s = exec i s := by
  simp [perform, h]

/-- An operation of a run answers a next state exactly when it is admitted and its meaning does. -/
theorem perform_eq_next {i : Instr} {s t : State} :
    perform i s = .next t ↔ objection i s = none ∧ exec i s = .next t := by
  unfold perform
  cases objection i s <;> simp

@[simp] theorem performAll_nil (s : State) : performAll [] s = .next s := rfl

@[simp] theorem performAll_cons (i : Instr) (ops : List Instr) (s : State) :
    performAll (i :: ops) s = andThen (perform i s) (performAll ops) := rfl

theorem performAll_append (ops ops' : List Instr) (s : State) :
    performAll (ops ++ ops') s = andThen (performAll ops s) (performAll ops') := by
  induction ops generalizing s with
  | nil => rfl
  | cons i ops ih =>
    simp only [List.cons_append, performAll_cons]
    cases perform i s <;> simp [andThen, ih]

/-- A property of states that every admitted operation of a set `P` keeps holds after a run of such operations. -/
theorem performAll_keeps {Q : State → Prop} {P : Instr → Prop}
    (hQ : ∀ i s t, P i → Q s → perform i s = .next t → Q t) :
    ∀ (ops : List Instr) (s t : State), (∀ i ∈ ops, P i) → Q s → performAll ops s = .next t → Q t
  | [], s, t, _, hs, h => by
    obtain rfl : s = t := by simpa using h
    exact hs
  | i :: ops, s, t, hP, hs, h => by
    obtain ⟨u, hu, h⟩ := andThen_eq_next.1 h
    exact performAll_keeps hQ ops u t (fun j hj => hP j (List.mem_cons_of_mem _ hj))
      (hQ i s u (hP i List.mem_cons_self) hs hu) h

/-! ### The fetch and the step -/

/-- What a fetch can give: the first word's operation, every word of the trace being valid. -/
theorem fetch_eq_ok {s s' : State} {i : Instr} :
    fetch s = .ok (i, s') ↔ ∃ later, decodeTrace s.trace = .ok (i :: later) ∧ s' = { s with trace := s.trace.tail } := by
  unfold fetch
  cases h : decodeTrace s.trace with
  | error why => simp
  | ok ops =>
    cases ops with
    | nil => simp
    | cons j later => simp [eq_comm, and_comm]

/-- What a step that answers a next state did: it performed the operation it fetched. -/
theorem step_eq_next {s t : State} :
    step s = .next t ↔ ∃ i s', fetch s = .ok (i, s') ∧ perform i s' = .next t := by
  unfold step
  cases fetch s with
  | error r => simp
  | ok p => exact ⟨fun h => ⟨p.1, p.2, rfl, h⟩, fun ⟨i, s', h, hp⟩ => by cases h; exact hp⟩

end Sys2Proof.Machine
end

