-- ==== Sys2Proof/Laws/PerInstr.lean ====
section
/-! SUPPORT. The per-instruction family `EncodeDecodes`: the word of an operation (R99) decodes to it. -/

namespace Sys2Proof.Laws.EncodeDecodes

/-- The word the encoder writes is well formed (R98), and the decoder reads the operation back from it (R99). -/
def Statement (i : Instr) : Prop := wordWellFormed (encode i) = true ∧ decode (encode i) = .ok i

theorem init : Statement .init := ⟨rfl, rfl⟩

theorem line (v : Level) : Statement (.line v) := by cases v <;> exact ⟨rfl, rfl⟩

theorem adv : Statement .adv := ⟨rfl, rfl⟩

theorem edge : Statement .edge := ⟨rfl, rfl⟩

theorem tick : Statement .tick := ⟨rfl, rfl⟩

theorem rdst : Statement .rdst := ⟨rfl, rfl⟩

theorem rdbyte : Statement .rdbyte := ⟨rfl, rfl⟩

theorem clr : Statement .clr := ⟨rfl, rfl⟩

end Sys2Proof.Laws.EncodeDecodes
end

