-- ==== Sys2Proof/Tests/Slice0.lean ====
section
/-! SUPPORT. Tests: the words of 30_encoding.md, an ill-formed term for each check, the one-step vectors of
95_test_vectors.md section 2, and for every statement with hypotheses a state that meets them. -/

namespace Sys2Proof.Tests

open Sys2Proof Sys2Proof.Machine

/-! ### Words (95_test_vectors.md V49 to V61) -/

theorem test_decode_init : decode 0b00000000#8 = .ok .init := by decide
theorem test_decode_line_0 : decode 0b00010000#8 = .ok (.line false) := by decide
theorem test_decode_line_1 : decode 0b00010001#8 = .ok (.line true) := by decide
theorem test_decode_adv : decode 0b00100000#8 = .ok .adv := by decide
theorem test_decode_edge : decode 0b00110000#8 = .ok .edge := by decide
theorem test_decode_tick : decode 0b01000000#8 = .ok .tick := by decide
theorem test_decode_rdst : decode 0b01010000#8 = .ok .rdst := by decide
theorem test_decode_rdbyte : decode 0b01100000#8 = .ok .rdbyte := by decide
theorem test_decode_clr : decode 0b01110000#8 = .ok .clr := by decide
theorem test_decode_rejects_stray_operand : decode 0x31#8 = .error .strayOperand := by decide
theorem test_decode_rejects_zero_bits : decode 0x12#8 = .error .zeroBitsSet := by decide
theorem test_decode_rejects_reserved_code : decode 0x80#8 = .error .reservedCode := by decide
theorem test_decode_rejects_all_ones : decode 0xFF#8 = .error .reservedCode := by decide
theorem test_decode_rejects_nothing : decodeBytes [] = .error .noWord := by decide
theorem test_decode_takes_one_byte : decodeBytes [0x11#8, 0x20#8] = .ok (.line true, [0x20#8]) := by decide
theorem test_decode_table_word : decodeTableWord 8 0x11 = some (.line true) := by decide

/-! ### Each check of WellFormed refuses an ill-formed term -/

theorem test_word_check_op : wordOpAssigned 0x80#8 = false ∧ wordWellFormed 0x80#8 = false := by decide
theorem test_word_check_zero : wordZeroClear 0x12#8 = false ∧ wordWellFormed 0x12#8 = false := by decide
theorem test_word_check_operand : wordOperandAllowed 0x31#8 = false ∧ wordWellFormed 0x31#8 = false := by decide
theorem test_word_checks_accept : wordWellFormed 0x11#8 = true ∧ wordWellFormed 0x70#8 = true := by decide

/-- The parameters of the spec's vectors. -/
def params : Params := Config.resetParams

theorem test_params_accept : params.wellFormed = true := by decide
theorem test_params_check_clock : { params with fCpu := 0 }.wellFormed = false := by decide
theorem test_params_check_prescaler : { params with prescaler := 0 }.wellFormed = false := by decide
theorem test_params_check_bit : { params with bitTicks := 1, halfBitTicks := 0 }.wellFormed = false := by decide
theorem test_params_check_half_low : { params with halfBitTicks := 0 }.wellFormed = false := by decide
theorem test_params_check_half_high : { params with halfBitTicks := 4 }.wellFormed = false := by decide
theorem test_params_check_width : { params with tmrW := 0 }.wellFormed = false := by decide
theorem test_params_check_range : { params with tmrW := 2 }.wellFormed = false := by decide
theorem test_params_check_latency : { params with latMax := 2 }.wellFormed = false := by decide

/-! ### States -/

/-- A state as 95_test_vectors.md writes it: the data, then line and edge unit, then the timer. -/
def st (x : RxState) (cnt : BitVec 3) (sh rb : Byte) (l ee ef te tf : Bool) (tc tm : Nat) : State :=
  { State.reset with
    rxState := x, bitCnt := cnt, shiftReg := sh, rxByte := rb, line := l, edgeEn := ee, edgeFlag := ef
    tmrEn := te, tmrFlag := tf, tmrCnt := tc, tmrCmp := tm }

/-- `ByteReady` with 0x09 unread, as after a frame. -/
def ready : State := st .byteReady 0 0x09 0x09 false true false false false 0 4

/-- `Receiving` right after `EDGE`. -/
def begun : State := st .receiving 0 0x09 0x09 true false false true false 0 6

/-- The wedged state of V45. -/
def wedged : State := st .idle 0 0x09 0x09 true false false true false 0 6

/-- A start transition latched in `Idle`. -/
def struck : State := st .idle 0 0 0 true true true false false 0 0

/-- Small parameters, for whole frames: `BIT_TICKS` 2, `HALF_BIT_TICKS` 1. -/
def small : Params := { params with bitTicks := 2, halfBitTicks := 1 }

/-- Parameters that allow a handler one tick of delay. -/
def lateParams : Params := { params with latMax := 1 }

/-! ### Vectors of 95_test_vectors.md section 2, one step each -/

theorem test_V2_init : exec .init (st .receiving 3 0x20 0x55 true false true true false 2 4) =
    .next (st .idle 3 0x20 0x55 true true false false false 0 4) := rfl
theorem test_V3_init : exec .init ready = .next (st .idle 0 0x09 0x09 false true false false false 0 4) := rfl
theorem test_V6_line : exec (.line true) (st .receiving 0 0 0 false false false true false 0 6) =
    .next (st .receiving 0 0 0 true false true true false 0 6) := rfl
theorem test_V11_line : ∀ s, s = { st .idle 0 0 0 true true false false false 0 0 with
      params := { params with startLevel := false } } →
    exec (.line false) s = .next { s with line := false, edgeFlag := true } := by rintro s rfl; rfl
theorem test_V13_adv : exec .adv ready = .next { ready with time := 1 } := rfl
theorem test_V15_adv : exec .adv (st .receiving 0 0 0 true false false true false 5 6) =
    .next { st .receiving 0 0 0 true false false true true 0 6 with time := 1 } := rfl
theorem test_V19_edge : exec .edge (st .byteReady 0 0x09 0x09 true true true false false 0 4) = .next begun := rfl
theorem test_V21_edge : exec .edge (st .receiving 0 0 0 true false true true false 0 6) =
    .refused (.notEnabled .edge) := rfl
theorem test_V27_tick : exec .tick (st .receiving 7 0x12 0x55 false false true true true 0 4) = .next ready := rfl
theorem test_V31_tick : ∀ s, s = { st .receiving 3 0x20 0 true false false true true 0 4 with
      params := { params with sampleInvert := true } } →
    exec .tick s = .next { s with shiftReg := 0x10, bitCnt := 4, tmrFlag := false } := by rintro s rfl; rfl
theorem test_V38_rdst : exec .rdst begun = .next { begun with returns := [.status 1] } := rfl
theorem test_V39_rdst : exec .rdst ready = .next { ready with returns := [.status 2] } := rfl
theorem test_V40_rdbyte : exec .rdbyte ready = .next { ready with returns := [.byte 0x09] } := rfl
theorem test_V41_rdbyte : exec .rdbyte wedged =
    .next { wedged with returns := [.draw (Config.draw8 0)], draws := 1 } := rfl
theorem test_V43_clr : exec .clr ready = .next (st .idle 0 0x09 0x09 false true false false false 0 4) := rfl
theorem test_V45_clr : exec .clr begun = .next wedged := rfl

/-! ### Witnesses: for each statement with hypotheses, states and operands that meet them all -/

theorem witness_ReservedWordsRefuseTheTrace :
    (0x80#8 : Byte) ∈ (State.withNextWord State.reset 0x80#8).trace ∧ decode 0x80#8 = .error .reservedCode ∧
    step (State.withNextWord State.reset 0x80#8) = .refused (.invalidWord .reservedCode) := ⟨by decide, rfl, rfl⟩

theorem witness_StepRunsTheDecodedOperation :
    objection (.line true) { State.reset with trace := [0x11#8, 0x30#8] } = none ∧
    decodeTrace [0x30#8] = .ok [.edge] ∧
    step { State.reset with trace := [0x11#8, 0x30#8] } =
      .next { struck with trace := [0x30#8] } ∧
    objection .adv { struck with trace := [0x20#8] } = some .handlerOverdue := ⟨rfl, rfl, rfl, rfl⟩

theorem witness_EmptyTraceIsRefused : State.reset.trace = [] := rfl

theorem witness_RunBeginsWithInit :
    { State.reset with started := false }.params.wellFormed = true ∧
    { State.reset with started := false }.started = false ∧ allowedBeforeInit .adv = false ∧
    (performAll ([true, false, true].map Instr.line ++ [.init]) { State.reset with started := false }) =
      .next { State.reset with line := true } := ⟨by decide, rfl, rfl, rfl⟩

theorem witness_InitInAnyStateAbandonsTheFrame :
    exec .init struck = .next { State.reset with line := true } ∧ struck.line = struck.params.startLevel ∧
    exec (.line true) { State.reset with line := true } = .next { State.reset with line := true } :=
  ⟨rfl, rfl, rfl⟩

theorem witness_LineLatchesStartTransitions :
    (State.reset.line = !State.reset.params.startLevel ∧ true = State.reset.params.startLevel) ∧
    ¬(struck.line = !struck.params.startLevel ∧ true = struck.params.startLevel) := by decide

theorem witness_EdgeBeginsAFrame :
    struck.params.wellFormed = true ∧ struck.edgeEn = true ∧ struck.edgeFlag = true ∧
    ¬(State.reset.edgeEn = true ∧ State.reset.edgeFlag = true) := by decide

theorem witness_EdgeInByteReadyHidesTheUnreadByte :
    { ready with edgeFlag := true }.started = true ∧ { ready with edgeFlag := true }.rxState = .byteReady ∧
    { ready with edgeFlag := true }.edgeEn = true ∧ { ready with edgeFlag := true }.edgeFlag = true := by decide

theorem begun_invariant : RunInvariant begun := by constructor <;> decide

theorem witness_NoStartDetectionDuringAByte : RunInvariant begun ∧ begun.rxState = .receiving ∧
    exec (.line false) begun = .next { begun with line := false } := ⟨begun_invariant, rfl, rfl⟩

theorem witness_AdvCountsOneTick :
    State.reset.tmrEn = false ∧
    (st .receiving 0 0 0 true false false true false 5 6).nextCount = 6 ∧
    (st .receiving 0 0 0 true false false true false 4 6).nextCount ≠ 6 ∧
    (st .receiving 0 0 0 true false false true false 255 6).nextCount = 0 := by decide

theorem witness_TickTakesASample :
    { begun with tmrFlag := true }.tmrEn = true ∧ { begun with tmrFlag := true }.rxState = .receiving ∧
    { begun with tmrFlag := true }.bitCnt ≠ 7 ∧ { begun with tmrFlag := true, bitCnt := 7 }.bitCnt = 7 ∧
    { wedged with tmrFlag := true }.tmrFlag = true ∧ { wedged with tmrFlag := true }.rxState ≠ .receiving ∧
    ¬(begun.tmrEn = true ∧ begun.tmrFlag = true) ∧ begun.params.wellFormed = true := by decide

theorem witness_CompletionDiscardsStaleTransitions :
    exec .tick (st .receiving 7 0x12 0x55 false false true true true 0 4) = .next ready ∧
    exec (.line true) ready = .next { ready with line := true, edgeFlag := true } ∧
    (∃ x, exec .edge { ready with line := true, edgeFlag := true } = .next x) := ⟨rfl, rfl, _, rfl⟩

theorem witness_ShiftAndCountsNeverWrap :
    exec .tick (st .receiving 6 0x24 0 false false true true true 0 4) =
      .next (st .receiving 7 0x12 0 false false true true false 0 4) ∧
    RunInvariant begun ∧ exec .adv begun = .next { begun with tmrCnt := 1, time := 1 } ∧
    RunInvariant { begun with tmrCnt := 5 } ∧
    exec .adv { begun with tmrCnt := 5 } = .next { begun with tmrFlag := true, time := 1 } :=
  ⟨rfl, begun_invariant, rfl, by constructor <;> decide, rfl⟩

theorem witness_ShiftLaw : begun.rxState = .receiving ∧ begun.bitCnt = 0 ∧ begun.tmrEn = true ∧
    [true, false, false, true, false, false, false, false].length = 8 ∧
    (∃ t, sampleAll [true, false, false, true, false, false, false, false] begun = .next t ∧ t.rxByte = 0x09) :=
  ⟨rfl, rfl, rfl, rfl, _, rfl, rfl⟩

theorem witness_TimerMatchesAfterItsPeriod : begun.tmrEn = true ∧ begun.tmrCnt < begun.tmrCmp ∧
    begun.tmrCmp < 2 ^ begun.params.tmrW ∧ begun.tmrCnt + 5 < begun.tmrCmp ∧ begun.tmrCnt + 6 = begun.tmrCmp := by
  decide

/-- The operations that bring the rest of a frame: three ticks to the first sample, two to each later one. -/
def eightSamples : List Instr :=
  [.adv, .adv, .adv, .tick] ++ (List.replicate 7 [Instr.adv, .adv, .tick]).flatten

/-- `begun` with the small parameters. -/
def begunSmall : State := { begun with params := small, tmrCmp := 3 }

theorem witness_BitCounterCountsTheTicks_seven : begunSmall.rxState = .receiving ∧ begunSmall.bitCnt = 0 ∧
    (∀ i ∈ eightSamples.take 22, i ≠ .init ∧ i ≠ .clr ∧ i ≠ .edge) ∧ (eightSamples.take 22).count .tick = 7 ∧
    ∃ t, performAll (eightSamples.take 22) begunSmall = .next t := ⟨rfl, rfl, by decide, by decide, _, rfl⟩

theorem witness_BitCounterCountsTheTicks_eight :
    (∀ i ∈ eightSamples, i ≠ .init ∧ i ≠ .clr ∧ i ≠ .edge) ∧ eightSamples.count .tick = 8 ∧
    ∃ t, performAll eightSamples begunSmall = .next t ∧ t.rxByte = 0xFF := ⟨by decide, by decide, _, rfl, rfl⟩

theorem witness_SamplesFallWithinTheLatency : ∃ t u, RunInvariant { struck with params := lateParams } ∧
    deliverable .edge { struck with params := lateParams } = true ∧ struck.waited = 0 ∧
    performAll (.adv :: .edge :: List.replicate 7 .adv) { struck with params := lateParams } = .next t ∧
    t.time = 8 ∧ t.bitCnt = 0 ∧ perform .tick t = .next u :=
  ⟨_, _, by constructor <;> decide, rfl, rfl, rfl, rfl, rfl, rfl⟩

theorem witness_RdstReturnsTheReceiveState : State.reset.started = true ∧
    { State.reset with started := false }.started = false := ⟨rfl, rfl⟩

theorem witness_RdbyteReturnsTheByteOrADraw : (ready.started = true ∧ ready.rxState = .byteReady) ∧
    ¬(State.reset.started = true ∧ State.reset.rxState = .byteReady) := by decide

theorem witness_ClrWritesIdle : begun.rxState = .receiving ∧ begun.tmrEn = true ∧ begun.edgeEn = false ∧
    exec .clr begun = .next wedged := ⟨rfl, rfl, rfl, rfl⟩

theorem witness_ReadsMayBeRepeated : ready.started = true ∧ ready.rxState = .byteReady ∧
    State.reset.rxState ≠ .byteReady ∧
    (∃ t u, exec .rdst ready = .next t ∧ exec .rdst t = .next u) ∧
    (∃ t u, exec .rdbyte ready = .next t ∧ exec .rdbyte t = .next u) ∧
    (∃ t u, exec .rdbyte State.reset = .next t ∧ exec .rdbyte t = .next u) :=
  ⟨rfl, rfl, by decide, ⟨_, _, rfl, rfl⟩, ⟨_, _, rfl, rfl⟩, ⟨_, _, rfl, rfl⟩⟩

theorem witness_PollReturnsTheByteAndReleases : ready.params.wellFormed = true ∧ ready.started = true ∧
    ready.rxState = .byteReady ∧ begun.rxState ≠ .byteReady := by decide

theorem witness_ConsumerCommutesWithTheEnvironment : isConsumer .rdst ∧ isConsumer .rdbyte ∧ isConsumer .clr ∧
    isEnvironment (.line true) = true ∧ isEnvironment .adv = true := by
  refine ⟨.inl rfl, .inr (.inl rfl), .inr (.inr rfl), rfl, rfl⟩

/-- `FRAME 0x09` at the small parameters, with every handler delivered at once. -/
def smallFrame : List Instr := promptFrame small 0x09#8

/-- The reset state with the small parameters. -/
def resetSmall : State := { State.reset with params := small }

theorem witness_ByteReadyNeedsAWholeFrame : resetSmall.rxState = .idle ∧
    ∃ t, performAll smallFrame resetSmall = .next t ∧ t.rxState = .byteReady := ⟨rfl, _, rfl, rfl⟩

/-- Every operation has a next state somewhere: the hypothesis `exec i s = .next t` of the statements on who writes
what; for `TICK`, in each of its three cases. -/
theorem witness_every_operation_completes :
    (∃ t, exec .init ready = .next t) ∧ (∃ t, exec (.line true) ready = .next t) ∧
    (∃ t, exec .adv ready = .next t) ∧ (∃ t, exec .edge struck = .next t) ∧
    (∃ t, exec .tick { begun with tmrFlag := true } = .next t) ∧
    (∃ t, exec .tick { begun with tmrFlag := true, bitCnt := 7 } = .next t) ∧
    (∃ t, exec .tick { wedged with tmrFlag := true } = .next t) ∧
    (∃ t, exec .rdst ready = .next t) ∧ (∃ t, exec .rdbyte ready = .next t) ∧ (∃ t, exec .clr ready = .next t) :=
  ⟨⟨_, rfl⟩, ⟨_, rfl⟩, ⟨_, rfl⟩, ⟨_, rfl⟩, ⟨_, rfl⟩, ⟨_, rfl⟩, ⟨_, rfl⟩, ⟨_, rfl⟩, ⟨_, rfl⟩, ⟨_, rfl⟩⟩

theorem witness_ShiftRegisterBelongsToTick : (List.replicate 8 true).length = 8 ∧ (.edge : Instr) ≠ .tick ∧
    (∃ t, exec .tick { begun with tmrFlag := true } = .next t) := ⟨rfl, by decide, _, rfl⟩

theorem witness_TimerInterruptEnableAndFlag : ready.tmrEn = false ∧ ∃ t, exec .adv ready = .next t :=
  ⟨rfl, _, rfl⟩

theorem witness_AdvWaitsForAnOverdueHandler : struck.params.wellFormed = true ∧ struck.started = true ∧
    awaitsHandler struck = true ∧ struck.params.latMax ≤ struck.waited ∧
    ¬(awaitsHandler { struck with params := lateParams } = true ∧ lateParams.latMax ≤ struck.waited) ∧
    awaitsHandler State.reset = false := by decide

theorem witness_EdgeStepsBeforeTick :
    deliverable .edge { struck with tmrEn := true, tmrFlag := true } = true ∧
    deliverable .timer { struck with tmrEn := true, tmrFlag := true } = true ∧
    struck.params.wellFormed = true ∧ struck.started = true := by decide

theorem witness_BadParametersInstantiateNothing :
    perform .init { State.reset with params := { params with latMax := 2 } } = .refused .notInstantiated := rfl

theorem witness_EveryStepKeepsTheInvariants : RunInvariant { State.reset with trace := [0x11#8] } ∧
    step { State.reset with trace := [0x11#8] } = .next struck := ⟨by constructor <;> decide, rfl⟩

theorem witness_InvariantsHoldInEveryStateReachedFromInit :
    (st .receiving 3 0x20 0x55 true false true true false 2 4).tmrCmp < 2 ^ params.tmrW ∧
    ∃ t, performAll [.init, .line false, .line true, .edge, .adv]
      (st .receiving 3 0x20 0x55 true false true true false 2 4) = .next t := ⟨by decide, _, rfl⟩

theorem witness_ClrAfterEdgeWedgesTheReceiver : RunInvariant { ready with edgeFlag := true } ∧
    ready.rxState = .byteReady ∧ { ready with edgeFlag := true }.edgeFlag = true :=
  ⟨by constructor <;> decide, rfl, rfl⟩

theorem witness_EveryStepButInitKeepsTheWedge : Wedged { wedged with trace := [0x20#8] } ∧
    ({ wedged with trace := [0x20#8] }.trace.head? ≠ some 0x00#8) ∧
    step { wedged with trace := [0x20#8] } = .next { wedged with tmrCnt := 1, time := 1 } :=
  ⟨⟨rfl, rfl, rfl⟩, by decide, rfl⟩

theorem witness_WedgedReceiverDeliversNothing : Wedged wedged ∧ wedged.started = true ∧
    .init ∉ [Instr.rdst, .adv, .adv, .adv, .adv, .adv, .adv, .tick, .line false, .line true, .rdbyte, .clr] ∧
    ∃ t, performAll [.rdst, .adv, .adv, .adv, .adv, .adv, .adv, .tick, .line false, .line true, .rdbyte, .clr]
      wedged = .next t := ⟨⟨rfl, rfl, rfl⟩, rfl, by decide, _, rfl⟩

theorem reset_ready : ReadyForFrame State.reset :=
  ⟨by constructor <;> decide, by decide, rfl, rfl, rfl⟩

theorem witness_PromptFrameIsDelivered : ReadyForFrame State.reset ∧ ReadyForFrame ready :=
  ⟨reset_ready, ⟨by constructor <;> decide, by decide, rfl, rfl, rfl⟩⟩

/-- The frame of 0x09 with a read of the receive state in its midst. -/
def playedFrame : List Instr := smallFrame.take 20 ++ .rdst :: smallFrame.drop 20

theorem witness_FrameWithinToleranceIsDelivered : ReadyForFrame resetSmall ∧
    (∀ d k, d ≤ 2 * small.latMax → k < 8 → readsItsCell small 2 d k) ∧
    (∀ i ∈ playedFrame, i ≠ .init ∧ i ≠ .clr) ∧
    playedFrame.filter isEnvironment = frameAtRate small 0x09#8 2 ∧
    ∃ t, performAll playedFrame resetSmall = .next t := by
  refine ⟨⟨by constructor <;> decide, by decide, rfl, rfl, rfl⟩, ?_, by decide, by decide, _, rfl⟩
  intro d k hd hk
  have hd : d ≤ 0 := hd
  show (k + 1) * 2 < d + 3 + k * 2 ∧ d + 3 + k * 2 < (k + 2) * 2
  omega

theorem witness_LatencyBudgetKeepsSamplesInTheirCells : params.wellFormed = true ∧
    2 * params.latMax < params.bitTicks - params.halfBitTicks ∧
    { params with bitTicks := 16, halfBitTicks := 8, latMax := 3 }.wellFormed = true ∧
    2 * 3 < 16 - 8 := by decide

end Sys2Proof.Tests
end

section
/-! PROOFS. The holding register `rx_byte` (R34): who writes it, and that nothing but `RDBYTE` depends on it. -/

namespace Sys2Proof.Proofs.HoldingRegister

open Sys2Proof Sys2Proof.Machine

/-! ### The two handlers as functions of their guard -/

/-- `EDGE` (R133) once its guard is decided. -/
theorem exec_edge_eq_ite (s : State) :
    exec .edge s = if deliverable .edge s
      then .next (beginFrame (restartTimer (disableEdge (acknowledge .edge s))))
      else .refused (.notEnabled .edge) := by
  change andThen (enterHandler .edge s) _ = _
  unfold enterHandler
  split <;> rfl

/-- `TICK` (R154) once its guard is decided. -/
theorem exec_tick_eq_ite (s : State) :
    exec .tick s = if deliverable .timer s
      then .next (sampleLine (acknowledge .timer s)) else .refused (.notEnabled .timer) := by
  change andThen (enterHandler .timer s) _ = _
  unfold enterHandler
  split <;> rfl

theorem exec_edge_eq_next {s t : State} (h : exec .edge s = .next t) :
    t = beginFrame (restartTimer (disableEdge (acknowledge .edge s))) := by
  rw [exec_edge_eq_ite] at h
  split at h
  · exact (Host.Outcome.next.inj h).symm
  · nomatch h

theorem exec_tick_eq_next {s t : State} (h : exec .tick s = .next t) :
    t = sampleLine (acknowledge .timer s) := by
  rw [exec_tick_eq_ite] at h
  split at h
  · exact (Host.Outcome.next.inj h).symm
  · nomatch h

/-! ### What an operation writes to the holding register -/

/-- The sample that completes a byte copies the shift register, with that sample in it, into the holding register;
any other leaves the holding register. -/
theorem sampleLine_rxByte (s : State) :
    (sampleLine s).rxByte =
      if s.rxState = .receiving ∧ s.bitCnt = 7 then (sampleLine s).shiftReg else s.rxByte := by
  obtain ⟨hstate, hs⟩ | ⟨hstate, hlast, hs⟩ | ⟨hstate, hearly, hs⟩ := sampleLine_cases s
  · simp [hs, hstate]
  · simp [hs, hstate, hlast]
  · rw [hs, if_neg fun h => hearly h.2]
    rfl

theorem exec_tick_rxByte {s t : State} (h : exec .tick s = .next t) :
    t.rxByte = if s.rxState = .receiving ∧ s.bitCnt = 7 then t.shiftReg else s.rxByte := by
  obtain rfl := exec_tick_eq_next h
  exact sampleLine_rxByte (acknowledge .timer s)

theorem execRdst_rxByte {s t : State} (h : execRdst s = .next t) : t.rxByte = s.rxByte := by
  unfold execRdst at h
  split at h <;> cases h <;> simp

theorem execRdbyte_rxByte {s t : State} (h : execRdbyte s = .next t) : t.rxByte = s.rxByte := by
  unfold execRdbyte at h
  split at h <;> cases h <;> simp

theorem exec_rxByte_of_ne_tick {i : Instr} {s t : State} (hi : i ≠ .tick) (h : exec i s = .next t) :
    t.rxByte = s.rxByte := by
  cases i with
  | init => cases h; rfl
  | line v => cases h; rfl
  | adv => cases h; exact clockTimer_rxByte (passTick s)
  | edge => obtain rfl := exec_edge_eq_next h; rfl
  | tick => exact absurd rfl hi
  | rdst => exact execRdst_rxByte h
  | rdbyte => exact execRdbyte_rxByte h
  | clr => cases h; rfl

/-! ### What depends on the holding register -/

/-- The timer does not look at the holding register. -/
theorem clockTimer_with_rxByte (s : State) (b : Byte) :
    clockTimer { s with rxByte := b } = { clockTimer s with rxByte := b } := by
  obtain ⟨hoff, hs⟩ | ⟨hon, hmatch, hs⟩ | ⟨hon, hcount, hs⟩ := clockTimer_cases s
  · rw [hs]
    exact if_neg (by simp [hoff])
  · rw [hs]
    exact (if_pos hon).trans (if_pos (beq_iff_eq.2 hmatch))
  · rw [hs]
    exact (if_pos hon).trans (if_neg fun h => hcount (eq_of_beq h))

/-- The body of `TICK` does not look at the holding register: a completion forgets what it held, and any other sample
carries it along. -/
theorem sampleLine_with_rxByte (s : State) (b : Byte) :
    ∃ b' : Byte, sampleLine { s with rxByte := b } = { sampleLine s with rxByte := b' } := by
  obtain ⟨hstate, hs⟩ | ⟨hstate, hlast, hs⟩ | ⟨hstate, hearly, hs⟩ := sampleLine_cases s
  · refine ⟨b, ?_⟩
    rw [hs]
    exact if_neg hstate
  · refine ⟨(takeSample s).shiftReg, ?_⟩
    rw [hs]
    exact (if_pos hstate).trans (if_pos hlast)
  · refine ⟨b, ?_⟩
    rw [hs]
    exact (if_pos hstate).trans (if_neg hearly)

theorem exec_tick_with_rxByte (s : State) (b : Byte) :
    ∃ b' : Byte, exec .tick { s with rxByte := b } = mapNext (fun t => { t with rxByte := b' }) (exec .tick s) := by
  obtain ⟨b', hsample⟩ := sampleLine_with_rxByte (acknowledge .timer s) b
  refine ⟨b', ?_⟩
  rw [exec_tick_eq_ite, exec_tick_eq_ite]
  change (if deliverable .timer s then _ else _) = _
  split
  · exact congrArg Host.Outcome.next hsample
  · rfl

theorem exec_edge_with_rxByte (s : State) (b : Byte) :
    exec .edge { s with rxByte := b } = mapNext (fun t => { t with rxByte := b }) (exec .edge s) := by
  rw [exec_edge_eq_ite, exec_edge_eq_ite]
  change (if deliverable .edge s then _ else _) = _
  split <;> rfl

theorem execRdst_with_rxByte (s : State) (b : Byte) :
    execRdst { s with rxByte := b } = mapNext (fun t => { t with rxByte := b }) (execRdst s) := by
  unfold execRdst
  dsimp only
  split <;> rfl

/-- Every operation but `TICK` and `RDBYTE` carries the holding register along unseen. -/
theorem exec_with_rxByte {i : Instr} (hread : i ≠ .rdbyte) (hwrite : i ≠ .tick) (s : State) (b : Byte) :
    exec i { s with rxByte := b } = mapNext (fun t => { t with rxByte := b }) (exec i s) := by
  cases i with
  | init => rfl
  | line v => rfl
  | adv => exact congrArg Host.Outcome.next (clockTimer_with_rxByte (passTick s) b)
  | edge => exact exec_edge_with_rxByte s b
  | tick => exact absurd rfl hwrite
  | rdst => exact execRdst_with_rxByte s b
  | rdbyte => exact absurd rfl hread
  | clr => rfl

/-- Settles O32: the write by the case `TICK` against the rest, and the independence likewise, since only the
completing `TICK` replaces the byte. -/
theorem holdingRegisterIsTheLastCompletion : Obligations.HoldingRegisterIsTheLastCompletion := by
  unfold Obligations.HoldingRegisterIsTheLastCompletion
  constructor
  · intro i s t h
    by_cases hi : i = .tick
    · subst hi
      simpa using exec_tick_rxByte h
    · simpa [hi] using exec_rxByte_of_ne_tick hi h
  · intro i s b hread
    by_cases hi : i = .tick
    · subst hi
      exact exec_tick_with_rxByte s b
    · exact ⟨b, exec_with_rxByte hread hi s b⟩

end Sys2Proof.Proofs.HoldingRegister
end

section
/-! PROOFS. The interrupts (R202): a handler has a step exactly when its interrupt is deliverable. -/

namespace Sys2Proof.Proofs.Interrupts

open Sys2Proof Sys2Proof.Machine

/-- A handler, whatever its body, has a next state exactly when its interrupt is deliverable: entering is its only
guard. -/
theorem handler_has_next_iff (irq : Irq) (body : State → State) (s : State) :
    (∃ t, andThen (enterHandler irq s) (fun u => leaveHandler (body u)) = .next t) ↔ deliverable irq s = true := by
  constructor
  · rintro ⟨t, h⟩
    obtain ⟨u, hentered, -⟩ := andThen_eq_next.1 h
    exact (enterHandler_eq_next.1 hentered).1
  · intro h
    exact ⟨body (acknowledge irq s), andThen_eq_next.2 ⟨_, enterHandler_of_deliverable h, leaveHandler_eq _⟩⟩

theorem exec_edge_has_next_iff (s : State) : (∃ t, exec .edge s = .next t) ↔ deliverable .edge s = true :=
  handler_has_next_iff .edge (fun u => beginFrame (restartTimer (disableEdge u))) s

theorem exec_tick_has_next_iff (s : State) : (∃ t, exec .tick s = .next t) ↔ deliverable .timer s = true :=
  handler_has_next_iff .timer sampleLine s

/-- Settles O37: deliverability is the conjunction of the two bits by its definition, and both handlers are instances
of one guarded handler. -/
theorem handlerGuardIsDeliverability : Obligations.HandlerGuardIsDeliverability := by
  unfold Obligations.HandlerGuardIsDeliverability
  intro s
  refine ⟨?edgeBits, ?timerBits, exec_edge_has_next_iff s, exec_tick_has_next_iff s⟩
  case edgeBits => rw [deliverable_edge, Bool.and_eq_true]
  case timerBits => rw [deliverable_timer, Bool.and_eq_true]

end Sys2Proof.Proofs.Interrupts
end

section
/-! PROOFS. Words and traces (R98 to R100): decoding is the inverse of encoding, and what a reserved word does. -/

namespace Sys2Proof.Proofs.Words

open Sys2Proof Sys2Proof.Machine

/-! ### The three fields of a word -/

theorem opField_toNat (w : Byte) : (opField w).toNat = w.toNat / 16 := by
  have hw : w.toNat < 256 := w.isLt
  rw [opField, BitVec.extractLsb'_toNat, Nat.shiftRight_eq_div_pow]
  omega

theorem zeroField_toNat (w : Byte) : (zeroField w).toNat = w.toNat / 2 % 8 := by
  rw [zeroField, BitVec.extractLsb'_toNat, Nat.shiftRight_eq_div_pow]

theorem operandField_eq (w : Byte) : operandField w = decide (w.toNat % 2 = 1) := by
  rw [operandField, BitVec.getLsbD, Nat.testBit_zero]

/-- A word is its three fields side by side (R98). -/
theorem fields_append (w : Byte) : (opField w ++ zeroField w) ++ BitVec.ofBool (operandField w) = w := by
  have hv : BitVec.ofBool (operandField w) = w.extractLsb' 0 1 := by
    apply BitVec.eq_of_getLsbD_eq
    intro k hk
    obtain rfl : k = 0 := by omega
    simp [operandField]
  have hhigh : opField w ++ zeroField w = w.extractLsb' 1 7 :=
    BitVec.extractLsb'_append_extractLsb'_eq_extractLsb' rfl
  calc (opField w ++ zeroField w) ++ BitVec.ofBool (operandField w)
      = w.extractLsb' 1 7 ++ w.extractLsb' 0 1 := by rw [hhigh, hv]
    _ = w.extractLsb' 0 8 := BitVec.extractLsb'_append_extractLsb'_eq_extractLsb' rfl
    _ = w := BitVec.extractLsb'_eq_self

/-! ### Decoding one word -/

theorem operationOf_eq_none {n : Nat} {v : Level} : operationOf n v = none ↔ 8 ≤ n := by
  match n with
  | 0 | 1 | 2 | 3 | 4 | 5 | 6 | 7 => simp [operationOf]
  | n + 8 => simp [operationOf]

/-- The code and the operand name the operation: only `LINE` keeps the operand. -/
theorem operationOf_eq_some {n : Nat} {v : Level} {i : Instr} (h : operationOf n v = some i) :
    i.op.toNat = n ∧ i.operandBit = (v && decide (n = 1)) := by
  unfold operationOf at h
  split at h <;> cases h <;> simp [Instr.op, Instr.operandBit]

/-- What the decoder asks of a word before it answers an operation. -/
theorem decode_eq_ok {w : Byte} {i : Instr} :
    decode w = .ok i ↔ operationOf (opField w).toNat (operandField w) = some i ∧ zeroField w = 0 ∧
      ¬(operandField w = true ∧ opField w ≠ 1) := by
  unfold decode
  cases operationOf (opField w).toNat (operandField w) with
  | none => simp
  | some j =>
    repeat' split
    all_goals simp_all

theorem encode_of_decode {w : Byte} {i : Instr} (h : decode w = .ok i) : encode i = w := by
  obtain ⟨hop, hzero, hoperand⟩ := decode_eq_ok.1 h
  obtain ⟨hcode, hbit⟩ := operationOf_eq_some hop
  have hone : (opField w).toNat = 1 ↔ opField w = 1 := BitVec.toNat_inj (y := 1)
  have hv : i.operandBit = operandField w := by
    rw [hbit]
    cases hw : operandField w with
    | false => rfl
    | true => simpa [hw, hone] using hoperand
  rw [encode, BitVec.eq_of_toNat_eq hcode, hv, ← hzero, fields_append]

theorem decode_encode (i : Instr) : decode (encode i) = .ok i := by
  cases i with
  | line v => exact (Laws.EncodeDecodes.line v).2
  | _ => rfl

/-- Settles O2: the fields of a decoded word are those of the operation, and a word is its fields. -/
theorem decodeIsTheInverseOfEncode : Obligations.DecodeIsTheInverseOfEncode := by
  unfold Obligations.DecodeIsTheInverseOfEncode
  exact fun w i => ⟨encode_of_decode, fun h => h ▸ decode_encode i⟩

theorem decode_eq_ok_iff_encode {w : Byte} {i : Instr} : decode w = .ok i ↔ encode i = w :=
  decodeIsTheInverseOfEncode w i

/-- Settles O1: each word is the encoding of its operation. -/
theorem spelledOutWordsDecode : Obligations.SpelledOutWordsDecode := by
  unfold Obligations.SpelledOutWordsDecode
  simp only [decode_eq_ok_iff_encode]
  exact ⟨rfl, rfl, rfl, rfl, rfl, rfl, rfl, rfl, rfl⟩

/-! ### Decoding a trace -/

@[simp] theorem decodeTrace_nil : decodeTrace [] = .ok [] := rfl

theorem decodeTrace_cons_of_ok {w : Byte} {rest : List Byte} {i : Instr} {later : List Instr}
    (hw : decode w = .ok i) (hrest : decodeTrace rest = .ok later) :
    decodeTrace (w :: rest) = .ok (i :: later) := by
  simp [decodeTrace, hw, hrest]

theorem decodeTrace_cons_eq_ok {w : Byte} {rest : List Byte} {ops : List Instr} :
    decodeTrace (w :: rest) = .ok ops ↔
      ∃ i later, decode w = .ok i ∧ decodeTrace rest = .ok later ∧ ops = i :: later := by
  constructor
  · intro h
    unfold decodeTrace at h
    split at h
    case h_1 => nomatch h
    case h_2 i hw =>
      split at h
      case h_1 => nomatch h
      case h_2 later hrest =>
        cases h
        exact ⟨i, later, hw, hrest, rfl⟩
  · rintro ⟨i, later, hw, hrest, rfl⟩
    exact decodeTrace_cons_of_ok hw hrest

theorem decodeTrace_eq_ok_iff_encode (words : List Byte) (ops : List Instr) :
    decodeTrace words = .ok ops ↔ ops.map encode = words := by
  induction words generalizing ops with
  | nil => cases ops <;> simp
  | cons w rest ih =>
    simp only [decodeTrace_cons_eq_ok, decode_eq_ok_iff_encode, ih, List.map_eq_cons_iff]
    constructor
    · rintro ⟨i, later, hw, hrest, rfl⟩
      exact ⟨i, later, rfl, hw, hrest⟩
    · rintro ⟨i, later, rfl, hw, hrest⟩
      exact ⟨i, later, hw, hrest, rfl⟩

/-- Settles O3, by induction on the words. -/
theorem traceDecodeAndEncodeAgree : Obligations.TraceDecodeAndEncodeAgree := by
  unfold Obligations.TraceDecodeAndEncodeAgree
  exact decodeTrace_eq_ok_iff_encode

/-! ### Reserved words -/

/-- The decoder's three reasons, in the fields of the word. -/
theorem decode_eq_error {w : Byte} : (∃ why, decode w = .error why) ↔
    operationOf (opField w).toNat (operandField w) = none ∨ zeroField w ≠ 0 ∨
      (operandField w = true ∧ opField w ≠ 1) := by
  unfold decode
  cases operationOf (opField w).toNat (operandField w) with
  | none => simp
  | some i =>
    repeat' split
    all_goals simp_all

theorem decode_eq_error_iff_toNat (w : Byte) : (∃ why, decode w = .error why) ↔
    (8 ≤ w.toNat / 16 ∨ w.toNat / 2 % 8 ≠ 0 ∨ (w.toNat % 2 = 1 ∧ w.toNat / 16 ≠ 1)) := by
  have hzero : zeroField w = 0 ↔ w.toNat / 2 % 8 = 0 := by rw [← BitVec.toNat_inj, zeroField_toNat]; rfl
  have hone : opField w = 1 ↔ w.toNat / 16 = 1 := by rw [← BitVec.toNat_inj, opField_toNat]; rfl
  rw [decode_eq_error, operationOf_eq_none, opField_toNat, operandField_eq, decide_eq_true_iff, ne_eq, ne_eq,
    hzero, hone]

/-- A trace that holds a reserved word anywhere has no decoding (R100). -/
theorem decodeTrace_eq_error_of_mem {words : List Byte} {w : Byte} {why : DecodeReject} (hmem : w ∈ words)
    (hw : decode w = .error why) : ∃ why', decodeTrace words = .error why' := by
  cases h : decodeTrace words with
  | error why' => exact ⟨why', rfl⟩
  | ok ops =>
    rw [← (decodeTrace_eq_ok_iff_encode words ops).1 h] at hmem
    obtain ⟨i, -, rfl⟩ := List.mem_map.1 hmem
    rw [decode_encode] at hw
    nomatch hw

theorem step_of_decodeTrace_error {s : State} {why : DecodeReject} (h : decodeTrace s.trace = .error why) :
    step s = .refused (.invalidWord why) := by
  simp [step, fetch, h]

/-- Settles O4: the three cases of R100 by the fields of the word, and the refusal because only encodings of
operations have a decoding. -/
theorem reservedWordsRefuseTheTrace : Obligations.ReservedWordsRefuseTheTrace := by
  unfold Obligations.ReservedWordsRefuseTheTrace
  refine ⟨decode_eq_error_iff_toNat, by decide +kernel, ?refusal⟩
  case refusal =>
    intro s w why hmem hw
    obtain ⟨why', htrace⟩ := decodeTrace_eq_error_of_mem hmem hw
    exact ⟨why', step_of_decodeTrace_error htrace⟩

end Sys2Proof.Proofs.Words
end

section
/-! PROOFS. The eight operations as a guard and an effect: what `exec` answers, and what the effect does to each field
of the block. -/

namespace Sys2Proof.Proofs.Operations

open Sys2Proof Sys2Proof.Machine Sys2Proof.Proofs.HoldingRegister

/-! ### `exec` by guard and effect -/

/-- The guard of an operation (R15): only the two handlers have one. -/
def enabled (i : Instr) (s : State) : Bool :=
  match i with
  | .edge => deliverable .edge s
  | .tick => deliverable .timer s
  | .init | .line _ | .adv | .rdst | .rdbyte | .clr => true

/-- What `RDST` hands to the consumer (R180). -/
def statusRead (s : State) : Returned :=
  .status (if s.started then s.rxState else Config.drawRxState s.draws).code

/-- What `RDBYTE` hands to the consumer (R182). -/
def byteRead (s : State) : Returned :=
  if s.byteAvailable then .byte s.rxByte else .draw (Config.draw8 s.draws)

/-- What an operation makes of a state once its guard holds. -/
def effect (i : Instr) (s : State) : State :=
  match i with
  | .init => initialise s
  | .line v => driveLine v s
  | .adv => clockTimer (passTick s)
  | .edge => beginFrame (restartTimer (disableEdge (acknowledge .edge s)))
  | .tick => sampleLine (acknowledge .timer s)
  | .rdst =>
    { s with returns := s.returns ++ [statusRead s], draws := if s.started then s.draws else s.draws + 1 }
  | .rdbyte =>
    { s with returns := s.returns ++ [byteRead s], draws := if s.byteAvailable then s.draws else s.draws + 1 }
  | .clr => release s

@[simp] theorem exec_init (s : State) : exec .init s = .next (initialise s) := rfl
@[simp] theorem exec_line (v : Level) (s : State) : exec (.line v) s = .next (driveLine v s) := rfl
@[simp] theorem exec_adv (s : State) : exec .adv s = .next (clockTimer (passTick s)) := rfl
@[simp] theorem exec_clr (s : State) : exec .clr s = .next (release s) := rfl

theorem exec_rdst (s : State) : exec .rdst s = .next (effect .rdst s) := by
  change execRdst s = _
  cases h : s.started <;> simp [execRdst, effect, statusRead, giveBack, countDraw, h]

theorem exec_rdbyte (s : State) : exec .rdbyte s = .next (effect .rdbyte s) := by
  change execRdbyte s = _
  cases h : s.byteAvailable <;> simp [execRdbyte, effect, byteRead, giveBack, countDraw, h]

/-- An operation whose guard holds has exactly one next state. -/
theorem exec_of_enabled {i : Instr} {s : State} (h : enabled i s = true) : exec i s = .next (effect i s) := by
  cases i with
  | edge => exact (exec_edge_eq_ite s).trans (if_pos h)
  | tick => exact (exec_tick_eq_ite s).trans (if_pos h)
  | rdst => exact exec_rdst s
  | rdbyte => exact exec_rdbyte s
  | init | line | adv | clr => rfl

theorem exec_edge_of_not {s : State} (h : deliverable .edge s = false) : exec .edge s = .refused (.notEnabled .edge) :=
  (exec_edge_eq_ite s).trans (if_neg (by simp [h]))

theorem exec_tick_of_not {s : State} (h : deliverable .timer s = false) :
    exec .tick s = .refused (.notEnabled .timer) :=
  (exec_tick_eq_ite s).trans (if_neg (by simp [h]))

/-- An operation without a step is a handler whose interrupt is not deliverable. -/
theorem exec_of_not_enabled {i : Instr} {s : State} (h : enabled i s = false) :
    (i = .edge ∧ deliverable .edge s = false ∧ exec i s = .refused (.notEnabled .edge)) ∨
    (i = .tick ∧ deliverable .timer s = false ∧ exec i s = .refused (.notEnabled .timer)) := by
  cases i with
  | edge => exact .inl ⟨rfl, h, exec_edge_of_not h⟩
  | tick => exact .inr ⟨rfl, h, exec_tick_of_not h⟩
  | init | line | adv | rdst | rdbyte | clr => nomatch h

/-- What a next state is: the guard held, and it is the effect. -/
theorem exec_eq_next {i : Instr} {s t : State} (h : exec i s = .next t) : enabled i s = true ∧ t = effect i s := by
  cases hg : enabled i s with
  | true =>
    rw [exec_of_enabled hg] at h
    exact ⟨rfl, (Host.Outcome.next.inj h).symm⟩
  | false =>
    obtain ⟨-, -, hr⟩ | ⟨-, -, hr⟩ := exec_of_not_enabled hg <;>
    · rw [hr] at h
      nomatch h

theorem exec_ne_notInstantiated (i : Instr) (s : State) : exec i s ≠ .refused .notInstantiated := by
  cases hg : enabled i s with
  | true => simp [exec_of_enabled hg]
  | false => obtain ⟨-, -, hr⟩ | ⟨-, -, hr⟩ := exec_of_not_enabled hg <;> simp [hr]

/-- Settles O8: `Fault` is empty, and the guard decides between a next state and a handler's refusal. -/
theorem noOperationHasAnErrorOutcome : Obligations.NoOperationHasAnErrorOutcome := by
  unfold Obligations.NoOperationHasAnErrorOutcome
  refine ⟨fun _ _ r => r.casesOn, fun i s => ?_⟩
  cases hg : enabled i s with
  | true => exact .inl ⟨_, exec_of_enabled hg⟩
  | false => exact .inr (exec_of_not_enabled hg)

/-! ### The timer and the sample as one record update -/

/-- One tick of the timer (R151), field by field. -/
theorem clockTimer_eq (s : State) : clockTimer s = { s with
    tmrFlag := if s.tmrEn = true ∧ s.nextCount = s.tmrCmp then true else s.tmrFlag
    tmrCnt := if s.tmrEn = true then (if s.nextCount = s.tmrCmp then 0 else s.nextCount) else s.tmrCnt } := by
  obtain ⟨hoff, hs⟩ | ⟨hon, hmatch, hs⟩ | ⟨hon, hcount, hs⟩ := clockTimer_cases s
  · rw [hs, if_neg (by simp [hoff]), if_neg (by simp [hoff])]
  · rw [hs, if_pos ⟨hon, hmatch⟩, if_pos hon, if_pos hmatch]
  · rw [hs, if_neg fun h => hcount h.2, if_pos hon, if_neg hcount]

/-- The body of `TICK` (R154 to R157), field by field: only the completing sample writes the receive state, the
enables, the edge flag and the holding register. -/
theorem sampleLine_eq (s : State) : sampleLine s = { s with
    rxState := if s.rxState = .receiving ∧ s.bitCnt = 7 then .byteReady else s.rxState
    bitCnt := if s.rxState = .receiving then (if s.bitCnt = 7 then 0 else s.bitCnt + 1) else s.bitCnt
    shiftReg := if s.rxState = .receiving then shiftIn (s.params.sampleBit s.line) s.shiftReg else s.shiftReg
    rxByte := if s.rxState = .receiving ∧ s.bitCnt = 7 then shiftIn (s.params.sampleBit s.line) s.shiftReg
      else s.rxByte
    edgeEn := if s.rxState = .receiving ∧ s.bitCnt = 7 then true else s.edgeEn
    edgeFlag := if s.rxState = .receiving ∧ s.bitCnt = 7 then false else s.edgeFlag
    tmrEn := if s.rxState = .receiving ∧ s.bitCnt = 7 then false else s.tmrEn
    tmrCmp := if s.rxState = .receiving then s.params.timerWord s.params.bitTicks else s.tmrCmp } := by
  obtain ⟨hstate, hs⟩ | ⟨hstate, hlast, hs⟩ | ⟨hstate, hearly, hs⟩ := sampleLine_cases s
  · simp [hs, hstate]
  · simp [hs, hstate, hlast, publish, takeSample]
  · have hnot : ¬(s.rxState = .receiving ∧ s.bitCnt = 7) := fun h => hearly h.2
    simp only [hs, if_neg hnot, if_pos hstate, if_neg hearly]
    rfl

/-! ### The effect, field by field -/

@[simp] theorem effect_params (i : Instr) (s : State) : (effect i s).params = s.params := by
  cases i <;> simp [effect]

theorem effect_started (i : Instr) (s : State) (h : s.started = true) : (effect i s).started = true := by
  cases i <;> simp [effect, h]

theorem effect_line (i : Instr) (s : State) :
    (effect i s).line = match i with
      | .line v => v
      | .init | .adv | .edge | .tick | .rdst | .rdbyte | .clr => s.line := by
  cases i with
  | init | line | adv | edge | tick | rdst | rdbyte | clr => simp [effect]

theorem effect_rxState (i : Instr) (s : State) :
    (effect i s).rxState = match i with
      | .init | .clr => .idle
      | .edge => .receiving
      | .tick => if s.rxState = .receiving ∧ s.bitCnt = 7 then .byteReady else s.rxState
      | .line _ | .adv | .rdst | .rdbyte => s.rxState := by
  cases i with
  | tick => rw [effect, sampleLine_eq]; rfl
  | init | line | adv | edge | rdst | rdbyte | clr => simp [effect]

theorem effect_bitCnt (i : Instr) (s : State) :
    (effect i s).bitCnt = match i with
      | .edge => 0
      | .tick => if s.rxState = .receiving then (if s.bitCnt = 7 then 0 else s.bitCnt + 1) else s.bitCnt
      | .init | .line _ | .adv | .rdst | .rdbyte | .clr => s.bitCnt := by
  cases i with
  | tick => rw [effect, sampleLine_eq]; rfl
  | init | line | adv | edge | rdst | rdbyte | clr => simp [effect]

theorem effect_shiftReg (i : Instr) (s : State) :
    (effect i s).shiftReg = match i with
      | .tick => if s.rxState = .receiving then shiftIn (s.params.sampleBit s.line) s.shiftReg else s.shiftReg
      | .init | .line _ | .adv | .edge | .rdst | .rdbyte | .clr => s.shiftReg := by
  cases i with
  | tick => rw [effect, sampleLine_eq]; rfl
  | init | line | adv | edge | rdst | rdbyte | clr => simp [effect]

/-- The holding register takes the shift register's new content at the completion (R34). -/
theorem effect_rxByte (i : Instr) (s : State) :
    (effect i s).rxByte = match i with
      | .tick => if s.rxState = .receiving ∧ s.bitCnt = 7 then (effect .tick s).shiftReg else s.rxByte
      | .init | .line _ | .adv | .edge | .rdst | .rdbyte | .clr => s.rxByte := by
  cases i with
  | tick => exact sampleLine_rxByte (acknowledge .timer s)
  | init | line | adv | edge | rdst | rdbyte | clr => simp [effect]

/-- The time passes by `ADV` alone, from `INIT` on (R16). -/
theorem effect_time (i : Instr) (s : State) :
    (effect i s).time = match i with
      | .init => 0
      | .adv => s.time + 1
      | .line _ | .edge | .tick | .rdst | .rdbyte | .clr => s.time := by
  cases i <;> simp [effect]

theorem effect_edgeEn (i : Instr) (s : State) :
    (effect i s).edgeEn = match i with
      | .init => true
      | .edge => false
      | .tick => if s.rxState = .receiving ∧ s.bitCnt = 7 then true else s.edgeEn
      | .line _ | .adv | .rdst | .rdbyte | .clr => s.edgeEn := by
  cases i with
  | tick => rw [effect, sampleLine_eq]; rfl
  | init | line | adv | edge | rdst | rdbyte | clr => simp [effect]

theorem startTransition_eq_true_iff {p : Params} {old new : Level} :
    startTransition p old new = true ↔ old = (!p.startLevel) ∧ new = p.startLevel := by
  simp [startTransition, Params.idleLevel]

theorem driveLine_edgeFlag_eq_ite (v : Level) (s : State) :
    (driveLine v s).edgeFlag =
      if s.line = (!s.params.startLevel) ∧ v = s.params.startLevel then true else s.edgeFlag := by
  rw [driveLine_edgeFlag]
  split
  case isTrue h => rw [startTransition_eq_true_iff.2 h, Bool.or_true]
  case isFalse h => rw [Bool.eq_false_iff.2 (startTransition_eq_true_iff.not.2 h), Bool.or_false]

theorem effect_edgeFlag (i : Instr) (s : State) :
    (effect i s).edgeFlag = match i with
      | .init | .edge => false
      | .line v => if s.line = (!s.params.startLevel) ∧ v = s.params.startLevel then true else s.edgeFlag
      | .tick => if s.rxState = .receiving ∧ s.bitCnt = 7 then false else s.edgeFlag
      | .adv | .rdst | .rdbyte | .clr => s.edgeFlag := by
  cases i with
  | tick => rw [effect, sampleLine_eq]; rfl
  | line v => exact driveLine_edgeFlag_eq_ite v s
  | init | adv | edge | rdst | rdbyte | clr => simp [effect]

theorem effect_tmrEn (i : Instr) (s : State) :
    (effect i s).tmrEn = match i with
      | .init => false
      | .edge => true
      | .tick => if s.rxState = .receiving ∧ s.bitCnt = 7 then false else s.tmrEn
      | .line _ | .adv | .rdst | .rdbyte | .clr => s.tmrEn := by
  cases i with
  | tick => rw [effect, sampleLine_eq]; rfl
  | init | line | adv | edge | rdst | rdbyte | clr => simp [effect]

theorem effect_tmrFlag (i : Instr) (s : State) :
    (effect i s).tmrFlag = match i with
      | .init | .edge | .tick => false
      | .adv => if s.tmrEn = true ∧ (s.tmrCnt + 1) % 2 ^ s.params.tmrW = s.tmrCmp then true else s.tmrFlag
      | .line _ | .rdst | .rdbyte | .clr => s.tmrFlag := by
  cases i with
  | adv => rw [effect, clockTimer_eq]; rfl
  | init | line | edge | tick | rdst | rdbyte | clr => simp [effect]

/-! ### Who writes each field -/

/-- Settles O38: the next state is the effect, whose receive state is the table. -/
theorem receiveStateTransitions : Obligations.ReceiveStateTransitions := by
  unfold Obligations.ReceiveStateTransitions
  intro i s t h
  obtain ⟨-, rfl⟩ := exec_eq_next h
  exact effect_rxState i s

/-- Settles O35, from the two fields of the effect and the guard of `EDGE`. -/
theorem edgeInterruptEnableAndFlag : Obligations.EdgeInterruptEnableAndFlag := by
  unfold Obligations.EdgeInterruptEnableAndFlag
  constructor
  · intro i s t h
    obtain ⟨-, rfl⟩ := exec_eq_next h
    exact ⟨effect_edgeEn i s, effect_edgeFlag i s⟩
  · intro s
    rw [Interrupts.exec_edge_has_next_iff, deliverable_edge, Bool.and_eq_true]

/-- The counter stands still while the timer interrupt is disabled (R151). -/
theorem clockTimer_of_disabled {s : State} (h : s.tmrEn = false) : clockTimer s = s := if_neg (by simp [h])

/-- Settles O36, from the two fields of the effect, the guard of `TICK` and the standstill. -/
theorem timerInterruptEnableAndFlag : Obligations.TimerInterruptEnableAndFlag := by
  unfold Obligations.TimerInterruptEnableAndFlag
  refine ⟨?writes, ?guard, ?standstill⟩
  case writes =>
    intro i s t h
    obtain ⟨-, rfl⟩ := exec_eq_next h
    exact ⟨effect_tmrEn i s, effect_tmrFlag i s⟩
  case guard =>
    intro s
    rw [Interrupts.exec_tick_has_next_iff, deliverable_timer, Bool.and_eq_true]
  case standstill =>
    intro s t hoff h
    obtain ⟨-, rfl⟩ := exec_eq_next h
    rw [effect, clockTimer_of_disabled (s := passTick s) hoff, passTick_tmrCnt]

/-- Settles O39: every effect is a record update, the timer's and the sample's by `clockTimer_eq` and
`sampleLine_eq`. -/
theorem eachOperationWritesOnlyItsFields : Obligations.EachOperationWritesOnlyItsFields := by
  unfold Obligations.EachOperationWritesOnlyItsFields
  intro i s t h
  obtain ⟨-, rfl⟩ := exec_eq_next h
  cases i with
  | init | line | edge | rdst | rdbyte | clr => rfl
  | adv => simp only [effect, clockTimer_eq]; rfl
  | tick => simp only [effect, sampleLine_eq]; rfl

end Sys2Proof.Proofs.Operations
end

section
/-! PROOFS. The invariants of R49: every operation of a run keeps them, so they hold in every state reached from
`INIT`. -/

namespace Sys2Proof.Proofs.Invariants

open Sys2Proof Sys2Proof.Machine Sys2Proof.Proofs.Operations

/-- What an operation of a run that answers a next state did: it was admitted, its guard held, and the state is its
effect. -/
theorem perform_eq_next_effect {i : Instr} {s t : State} (h : perform i s = .next t) :
    objection i s = none ∧ enabled i s = true ∧ t = effect i s :=
  have ⟨hadmitted, hexec⟩ := perform_eq_next.1 h
  ⟨hadmitted, exec_eq_next hexec⟩

theorem not_overdue_of_admitted {s : State} (h : objection .adv s = none) (hawaits : awaitsHandler s = true) :
    s.waited < s.params.latMax := by
  obtain ⟨-, -, hdelivery, -⟩ := objection_eq_none.1 h
  have hdue := hdelivery rfl
  rw [overdue, hawaits, Bool.true_and, decide_eq_false_iff_not] at hdue
  omega

/-- The tick that passes, before the timer sees it: only the time and the handler's delay move. -/
theorem passTick_waited_le {s : State} (hadmitted : objection .adv s = none) :
    (passTick s).waited ≤ s.params.latMax := by
  rw [passTick_waited]
  split
  case isTrue h => exact not_overdue_of_admitted hadmitted h
  case isFalse => exact Nat.zero_le _

/-! ### Consequences of the invariants -/

section
variable {s : State} (inv : RunInvariant s)
include inv

theorem latMax_lt_bitTicks : s.params.latMax < s.params.bitTicks := by
  have hp := wellFormed_iff.1 inv.instantiated
  omega

theorem tmrEn_of_edgeEn (h : s.edgeEn = true) : s.tmrEn = false := by
  simpa [h] using inv.oneEnabled

theorem edgeEn_of_tmrEn (h : s.tmrEn = true) : s.edgeEn = false := by
  simpa [h] using inv.oneEnabled

theorem not_both_deliverable : ¬(deliverable .edge s = true ∧ deliverable .timer s = true) := by
  rw [deliverable_edge, deliverable_timer, inv.oneEnabled]
  cases s.tmrEn <;> simp

/-- The compare value is at least a bit period, so a handler's delay cannot reach it. -/
theorem bitTicks_le_tmrCmp (hon : s.tmrEn = true) : s.params.bitTicks ≤ s.tmrCmp := by
  have hcmp := inv.compare hon
  unfold Params.firstCmp at hcmp
  omega

/-- While the timer runs its count does not wrap before it matches (R159). -/
theorem nextCount_eq (hon : s.tmrEn = true) : s.nextCount = s.tmrCnt + 1 :=
  timerWord_of_lt (by have := inv.counting hon; have := inv.widths.2; omega)

/-- A match never finds its flag still raised: the handler is in time (R152, R206). -/
theorem not_match_of_tmrFlag (hadmitted : objection .adv s = none) (hflag : s.tmrFlag = true) :
    s.tmrCnt + 1 < s.tmrCmp := by
  have hon := inv.flagEnabled hflag
  have hlate := not_overdue_of_admitted hadmitted (by simp [hon, hflag])
  have hcnt := inv.sinceMatch hflag
  have hcmp := bitTicks_le_tmrCmp inv hon
  have hlat := latMax_lt_bitTicks inv
  omega

/-! ### Each operation of a run keeps the invariants -/

theorem runInvariant_initialise : RunInvariant (initialise s) where
  instantiated := inv.instantiated
  started := rfl
  oneEnabled := rfl
  receiving := (nomatch ·)
  byteReady := (nomatch ·)
  flagEnabled := (nomatch ·)
  compare := (nomatch ·)
  counting := (nomatch ·)
  widths := ⟨Nat.two_pow_pos _, inv.widths.2⟩
  sinceMatch := (nomatch ·)
  inTime := Nat.zero_le _
  noneOwed _ := rfl

theorem runInvariant_driveLine (v : Level) : RunInvariant (driveLine v s) :=
  { inv with
    noneOwed := fun h => inv.noneOwed (by
      simp only [awaitsHandler_eq, driveLine_edgeEn, driveLine_edgeFlag, driveLine_tmrEn, driveLine_tmrFlag] at h ⊢
      revert h
      cases s.edgeFlag <;> simp) }

theorem runInvariant_clockTimer_passTick (hadmitted : objection .adv s = none) :
    RunInvariant (clockTimer (passTick s)) := by
  have hlate := passTick_waited_le hadmitted
  obtain ⟨hoff, hs⟩ | ⟨hon, hmatch, hs⟩ | ⟨hon, hcount, hs⟩ := clockTimer_cases (passTick s)
  case inl =>
    have hflag : s.tmrFlag = false := by
      cases h : s.tmrFlag with
      | false => rfl
      | true => exact absurd (inv.flagEnabled h) (by simp [show s.tmrEn = false from hoff])
    rw [hs]
    exact
      { inv with
        inTime := hlate
        sinceMatch := fun h => absurd h (by simp [hflag])
        noneOwed := fun h => if_neg (Bool.eq_false_iff.1 h) }
  case inr.inl =>
    have hcnt : s.tmrCnt + 1 = s.tmrCmp := (nextCount_eq inv hon).symm.trans hmatch
    have hflag : s.tmrFlag = false := Bool.eq_false_iff.2 fun h => by
      have := not_match_of_tmrFlag inv hadmitted h
      omega
    have hedge : s.edgeEn = false := edgeEn_of_tmrEn inv hon
    rw [hs]
    exact
      { inv with
        flagEnabled := fun _ => hon
        counting := fun _ => by change 0 < s.tmrCmp; omega
        widths := ⟨Nat.two_pow_pos _, inv.widths.2⟩, inTime := hlate
        sinceMatch := fun _ => by simp [hflag, hedge]
        noneOwed := fun h => absurd h (by simp [show s.tmrEn = true from hon]) }
  case inr.inr =>
    have hnext : s.nextCount = s.tmrCnt + 1 := nextCount_eq inv hon
    have hlt : s.tmrCnt + 1 < s.tmrCmp := by
      have := inv.counting hon
      have : s.tmrCnt + 1 ≠ s.tmrCmp := hnext ▸ hcount
      omega
    have hcmp : s.tmrCmp < 2 ^ s.params.tmrW := inv.widths.2
    rw [hs]
    exact
      { inv with
        counting := fun _ => by change s.nextCount < s.tmrCmp; omega
        widths := ⟨by change s.nextCount < 2 ^ s.params.tmrW; omega, hcmp⟩, inTime := hlate
        sinceMatch := fun (h : s.tmrFlag = true) => by
          change s.nextCount = (passTick s).waited
          rw [passTick_waited, if_pos (by simp [h, show s.tmrEn = true from hon]), hnext, inv.sinceMatch h]
        noneOwed := fun h => if_neg (Bool.eq_false_iff.1 h) }

theorem runInvariant_effect_edge : RunInvariant (effect .edge s) := by
  have hp := wellFormed_iff.1 inv.instantiated
  have hcmp : (effect .edge s).tmrCmp = s.params.firstCmp := timerWord_firstCmp inv.instantiated
  have hfirst : s.params.firstCmp = s.params.bitTicks + s.params.halfBitTicks := rfl
  exact
    { inv with
      oneEnabled := rfl
      receiving := fun _ => ⟨rfl, rfl⟩, byteReady := (nomatch ·), flagEnabled := (nomatch ·)
      compare := fun _ => .inl hcmp
      counting := fun _ => by rw [hcmp]; change 0 < s.params.firstCmp; omega
      widths := ⟨Nat.two_pow_pos _, timerWord_lt _ _⟩
      sinceMatch := (nomatch ·), inTime := Nat.zero_le _, noneOwed := fun _ => rfl }

/-- Taking the timer's request leaves nothing owed by the timer; the edge interrupt is off meanwhile. -/
theorem runInvariant_acknowledge_timer : RunInvariant (acknowledge .timer s) :=
  { inv with
    flagEnabled := (nomatch ·)
    sinceMatch := (nomatch ·)
    inTime := Nat.zero_le _
    noneOwed := fun _ => rfl }

theorem runInvariant_effect_tick (henabled : deliverable .timer s = true) : RunInvariant (effect .tick s) := by
  rw [deliverable_timer, Bool.and_eq_true] at henabled
  obtain ⟨hon, hflag⟩ := henabled
  have hp := wellFormed_iff.1 inv.instantiated
  have hcmp : s.params.timerWord s.params.bitTicks = s.params.bitTicks := timerWord_bitTicks inv.instantiated
  have hcnt : s.tmrCnt < s.params.bitTicks := by
    have := inv.sinceMatch hflag
    have := inv.inTime
    omega
  have hedge : s.edgeEn = false := edgeEn_of_tmrEn inv hon
  obtain ⟨hstate, hs⟩ | ⟨hstate, hlast, hs⟩ | ⟨hstate, hearly, hs⟩ := sampleLine_cases (acknowledge .timer s)
  case inl =>
    rw [effect, hs]
    exact runInvariant_acknowledge_timer inv
  case inr.inl =>
    rw [effect, hs]
    exact
      { inv with
        oneEnabled := rfl
        receiving := (nomatch ·), byteReady := fun _ => ⟨rfl, rfl⟩, flagEnabled := (nomatch ·)
        compare := (nomatch ·), counting := (nomatch ·)
        widths := ⟨inv.widths.1, timerWord_lt _ _⟩
        sinceMatch := (nomatch ·), inTime := Nat.zero_le _, noneOwed := fun _ => rfl }
  case inr.inr =>
    rw [effect, hs]
    exact
      { inv with
        receiving := fun _ => ⟨hon, hedge⟩, flagEnabled := (nomatch ·)
        compare := fun _ => .inr hcmp
        counting := fun _ => hcnt.trans_eq hcmp.symm
        widths := ⟨inv.widths.1, timerWord_lt _ _⟩
        sinceMatch := (nomatch ·), inTime := Nat.zero_le _, noneOwed := fun _ => rfl }

/-- What the consumer reads, and the words of the trace, are in none of the invariants. -/
theorem runInvariant_with_bookkeeping (l : List Returned) (n : Nat) (ws : List Byte) :
    RunInvariant { s with returns := l, draws := n, trace := ws } :=
  { inv with }

theorem runInvariant_release : RunInvariant (release s) :=
  { inv with
    receiving := (nomatch ·)
    byteReady := fun h => nomatch h }

end

/-- Every operation of a run keeps the invariants. -/
theorem runInvariant_perform {i : Instr} {s t : State} (inv : RunInvariant s) (h : perform i s = .next t) :
    RunInvariant t := by
  obtain ⟨hadmitted, henabled, rfl⟩ := perform_eq_next_effect h
  cases i with
  | init => exact runInvariant_initialise inv
  | line v => exact runInvariant_driveLine inv v
  | adv => exact runInvariant_clockTimer_passTick inv hadmitted
  | edge => exact runInvariant_effect_edge inv
  | tick => exact runInvariant_effect_tick inv henabled
  | rdst => exact runInvariant_with_bookkeeping inv _ _ _
  | rdbyte => exact runInvariant_with_bookkeeping inv _ _ _
  | clr => exact runInvariant_release inv

theorem runInvariant_performAll {ops : List Instr} {s t : State} (inv : RunInvariant s)
    (h : performAll ops s = .next t) : RunInvariant t :=
  performAll_keeps (P := fun _ => True) (fun _ _ _ _ hu hp => runInvariant_perform hu hp) ops s t
    (fun _ _ => trivial) inv h

/-- Settles O44: a step takes a word off the trace, which is in none of the invariants, and performs an operation. -/
theorem everyStepKeepsTheInvariants : Obligations.EveryStepKeepsTheInvariants := by
  unfold Obligations.EveryStepKeepsTheInvariants
  intro s t inv h
  obtain ⟨i, s', hfetch, hperform⟩ := step_eq_next.1 h
  obtain ⟨later, -, rfl⟩ := fetch_eq_ok.1 hfetch
  exact runInvariant_perform (runInvariant_with_bookkeeping inv s.returns s.draws s.trace.tail) hperform

/-- Settles O43, field by field of the literal reset state. -/
theorem invariantsHoldAtReset : Obligations.InvariantsHoldAtReset := by
  unfold Obligations.InvariantsHoldAtReset
  constructor <;> decide

/-- An `INIT` of a run makes the invariants hold, whatever it finds but the width of the compare value. -/
theorem runInvariant_of_perform_init {s t : State} (hcmp : s.tmrCmp < 2 ^ s.params.tmrW)
    (h : perform .init s = .next t) : RunInvariant t := by
  obtain ⟨hadmitted, -, rfl⟩ := perform_eq_next_effect h
  exact
    { instantiated := (objection_eq_none.1 hadmitted).1, started := rfl, oneEnabled := rfl
      receiving := (nomatch ·), byteReady := (nomatch ·), flagEnabled := (nomatch ·)
      compare := (nomatch ·), counting := (nomatch ·), widths := ⟨Nat.two_pow_pos _, hcmp⟩
      sinceMatch := (nomatch ·), inTime := Nat.zero_le _, noneOwed := fun _ => rfl }

/-- Settles O45: `INIT` makes the invariants hold and the rest of the run keeps them. -/
theorem invariantsHoldInEveryStateReachedFromInit : Obligations.InvariantsHoldInEveryStateReachedFromInit := by
  unfold Obligations.InvariantsHoldInEveryStateReachedFromInit
  intro s t ops hcmp h
  obtain ⟨u, hinit, hrest⟩ := andThen_eq_next.1 h
  have inv : RunInvariant t := runInvariant_performAll (runInvariant_of_perform_init hcmp hinit) hrest
  exact ⟨inv, not_both_deliverable inv⟩

end Sys2Proof.Proofs.Invariants
end

section
/-! PROOFS. What an operation does not look at: the trace, `shift_reg` outside `TICK`, `line` outside `TICK` and
`LINE`, and what the consumer alone writes. -/

namespace Sys2Proof.Proofs.NonInterference

open Sys2Proof Sys2Proof.Machine Sys2Proof.Proofs.Operations

/-- An update of the state that the guard does not see and the effect carries along changes nothing else in the
outcome. -/
theorem exec_of_commuting_update {i : Instr} {s : State} (f : State → State) (hguard : enabled i (f s) = enabled i s)
    (heffect : effect i (f s) = f (effect i s)) : exec i (f s) = mapNext f (exec i s) := by
  cases hg : enabled i s with
  | true => rw [exec_of_enabled (hguard.trans hg), exec_of_enabled hg, heffect, mapNext]
  | false =>
    obtain ⟨rfl, -, hs⟩ | ⟨rfl, -, hs⟩ := exec_of_not_enabled hg <;> rw [hs]
    · exact exec_edge_of_not (hguard.trans hg)
    · exact exec_tick_of_not (hguard.trans hg)

/-! ### The trace -/

theorem effect_with_trace (i : Instr) (s : State) (ws : List Byte) :
    effect i { s with trace := ws } = { effect i s with trace := ws } := by
  cases i with
  | adv => simp only [effect, clockTimer_eq]; rfl
  | tick => simp only [effect, sampleLine_eq]; rfl
  | init | line | edge | rdst | rdbyte | clr => rfl

/-- No operation of a run reads the words that are still to come (log entry 6). -/
theorem perform_with_trace (i : Instr) (s : State) (ws : List Byte) :
    perform i { s with trace := ws } = mapNext (fun t => { t with trace := ws }) (perform i s) := by
  have hobjection : objection i { s with trace := ws } = objection i s := rfl
  unfold perform
  rw [hobjection]
  cases objection i s with
  | some r => rfl
  | none =>
    exact exec_of_commuting_update (fun t => { t with trace := ws }) (by cases i <;> rfl) (effect_with_trace i s ws)

/-! ### The shift register and the line -/

theorem effect_with_shiftReg {i : Instr} (hi : i ≠ .tick) (s : State) (r : Byte) :
    effect i { s with shiftReg := r } = { effect i s with shiftReg := r } := by
  cases i with
  | adv => simp only [effect, clockTimer_eq]; rfl
  | tick => exact absurd rfl hi
  | init | line | edge | rdst | rdbyte | clr => rfl

theorem effect_with_line {i : Instr} (htick : i ≠ .tick) (hline : ∀ l, i ≠ .line l) (s : State) (v : Level) :
    effect i { s with line := v } = { effect i s with line := v } := by
  cases i with
  | adv => simp only [effect, clockTimer_eq]; rfl
  | tick => exact absurd rfl htick
  | line l => exact absurd rfl (hline l)
  | init | edge | rdst | rdbyte | clr => rfl

/-- Settles O34: the line of the effect, and the update of the line by the guard and the effect. -/
theorem lineIsAnInput : Obligations.LineIsAnInput := by
  unfold Obligations.LineIsAnInput
  constructor
  · intro i s t h
    obtain ⟨-, rfl⟩ := exec_eq_next h
    exact effect_line i s
  · intro i s v htick hline
    exact exec_of_commuting_update (fun t => { t with line := v }) (by cases i <;> rfl)
      (effect_with_line htick hline s v)

/-! ### The shift (R159) -/

/-- The shift as numbers: half of the old content, and the sample in the top bit. -/
theorem shiftIn_toNat (b : Bool) (r : Byte) : (shiftIn b r).toNat = r.toNat / 2 + 128 * b.toNat := by
  have hr : r.toNat < 256 := r.isLt
  have htop : (BitVec.ofBool b ++ (0 : BitVec 7)).toNat = b.toNat <<< 7 := by
    rw [BitVec.toNat_append, BitVec.toNat_ofBool]
    exact Nat.or_zero _
  rw [shiftIn, BitVec.toNat_or, BitVec.toNat_ushiftRight, htop, Nat.or_comm,
    ← Nat.shiftLeft_add_eq_or_of_lt (by rw [Nat.shiftRight_eq_div_pow]; omega), Nat.shiftRight_eq_div_pow,
    Nat.shiftLeft_eq]
  omega

@[simp] theorem shiftIn_getLsbD_seven (b : Bool) (r : Byte) : (shiftIn b r).getLsbD 7 = b := by
  have hr : r.toNat < 256 := r.isLt
  rw [BitVec.getLsbD, shiftIn_toNat, Nat.testBit_eq_decide_div_mod_eq]
  cases b <;> simp <;> omega

theorem shiftIn_getLsbD_of_lt (b : Bool) (r : Byte) {k : Nat} (hk : k < 7) :
    (shiftIn b r).getLsbD k = r.getLsbD (k + 1) := by
  rw [shiftIn, BitVec.getLsbD_or, BitVec.getLsbD_ushiftRight, BitVec.getLsbD_append, if_pos hk, Nat.add_comm]
  simp

/-- The shift law (R158) for the shifts alone: `n` of them put their bits on top, the first lowest, over the old
content `n` places down. -/
theorem foldl_shiftIn_getLsbD (bits : List Bool) (r : Byte) (hlen : bits.length ≤ 8) :
    (∀ k, k < 8 - bits.length →
      (bits.foldl (fun r b => shiftIn b r) r).getLsbD k = r.getLsbD (k + bits.length)) ∧
    (∀ k b, bits[k]? = some b → (bits.foldl (fun r b => shiftIn b r) r).getLsbD (8 - bits.length + k) = b) := by
  induction bits generalizing r with
  | nil => simp
  | cons b bits ih =>
    rw [List.length_cons] at hlen
    obtain ⟨hold, hnew⟩ := ih (shiftIn b r) (by omega)
    rw [List.foldl_cons, List.length_cons]
    constructor
    · intro k hk
      rw [hold k (by omega), shiftIn_getLsbD_of_lt b r (by omega), Nat.add_assoc]
    · intro k c hc
      cases k with
      | zero =>
        obtain rfl : b = c := by simpa using hc
        rw [hold _ (by omega), show 8 - (bits.length + 1) + 0 + bits.length = 7 by omega, shiftIn_getLsbD_seven]
      | succ k =>
        rw [show 8 - (bits.length + 1) + (k + 1) = 8 - bits.length + k by omega]
        exact hnew k c (by simpa using hc)

/-- Eight shifts leave nothing of the old content (R33). -/
theorem foldl_shiftIn_of_length_eight (bits : List Bool) (r r' : Byte) (hlen : bits.length = 8) :
    bits.foldl (fun r b => shiftIn b r) r = bits.foldl (fun r b => shiftIn b r) r' := by
  apply BitVec.eq_of_getLsbD_eq
  intro k hk
  obtain ⟨b, hbit⟩ : ∃ b, bits[k]? = some b := ⟨_, List.getElem?_eq_getElem (by omega)⟩
  have hfrom (r : Byte) := (foldl_shiftIn_getLsbD bits r hlen.le).2 k _ hbit
  rw [hlen, Nat.sub_self, Nat.zero_add] at hfrom
  rw [hfrom r, hfrom r']

/-- Settles O33: the update of the register by the guard and the effect, `TICK`'s write by the sample, and the flush
by the shift law for eight bits. -/
theorem shiftRegisterBelongsToTick : Obligations.ShiftRegisterBelongsToTick := by
  unfold Obligations.ShiftRegisterBelongsToTick
  refine ⟨?unread, ?written, foldl_shiftIn_of_length_eight⟩
  case unread =>
    intro i s r hi
    exact exec_of_commuting_update (fun t => { t with shiftReg := r }) (by cases i <;> rfl)
      (effect_with_shiftReg hi s r)
  case written =>
    intro s t h
    obtain ⟨-, rfl⟩ := exec_eq_next h
    exact effect_shiftReg .tick s

/-! ### The consumer and the environment -/

/-- What a consumer operation writes (R36): the receive state, and the model's record of what was returned. -/
theorem effect_of_consumer {c : Instr} (hc : isConsumer c) (s : State) :
    ∃ x l n, effect c s = { s with rxState := x, returns := l, draws := n } := by
  obtain rfl | rfl | rfl := hc <;> exact ⟨_, _, _, rfl⟩

theorem enabled_of_consumer {c : Instr} (hc : isConsumer c) (s : State) : enabled c s = true := by
  obtain rfl | rfl | rfl := hc <;> rfl

/-- A `LINE` or an `ADV` does not look at what the consumer writes, nor does the consumer at what they write. -/
theorem effect_consumer_environment {c e : Instr} (hc : isConsumer c) (he : isEnvironment e = true) (s : State) :
    effect e (effect c s) = effect c (effect e s) := by
  cases e with
  | line v => obtain rfl | rfl | rfl := hc <;> rfl
  | adv => obtain rfl | rfl | rfl := hc <;> (simp only [effect, clockTimer_eq]; rfl)
  | init | edge | tick | rdst | rdbyte | clr => nomatch he

theorem enabled_of_environment {e : Instr} (he : isEnvironment e = true) (s : State) : enabled e s = true := by
  cases e with
  | line | adv => rfl
  | init | edge | tick | rdst | rdbyte | clr => nomatch he

theorem deliverable_effect_consumer {c : Instr} (hc : isConsumer c) (irq : Irq) (s : State) :
    deliverable irq (effect c s) = deliverable irq s := by
  obtain ⟨x, l, n, h⟩ := effect_of_consumer hc s
  rw [h]
  cases irq <;> rfl

/-- Settles O30: neither of the two has a guard, and their effects commute. -/
theorem consumerCommutesWithTheEnvironment : Obligations.ConsumerCommutesWithTheEnvironment := by
  unfold Obligations.ConsumerCommutesWithTheEnvironment
  intro c e s hc he
  constructor
  · rw [exec_of_enabled (enabled_of_consumer hc s), exec_of_enabled (enabled_of_environment he s), andThen_next,
      andThen_next, exec_of_enabled (enabled_of_environment he _), exec_of_enabled (enabled_of_consumer hc _),
      effect_consumer_environment hc he]
  · intro t h irq
    obtain ⟨-, rfl⟩ := exec_eq_next h
    exact deliverable_effect_consumer hc irq s

end Sys2Proof.Proofs.NonInterference
end

section
/-! PROOFS. Steps and runs: what a step is (R98, R247), which operation of a run is refused (R206, R207, R231, U12),
and how a run begins. -/

namespace Sys2Proof.Proofs.Runs

open Sys2Proof Sys2Proof.Machine Sys2Proof.Proofs.Words Sys2Proof.Proofs.Operations Sys2Proof.Proofs.NonInterference

/-! ### Steps -/

/-- A step performs the decoded operation on the state with its word taken off. -/
theorem step_eq_perform {s : State} {w : Byte} {rest : List Byte} {i : Instr} {later : List Instr}
    (htrace : s.trace = w :: rest) (hw : decode w = .ok i) (hrest : decodeTrace rest = .ok later) :
    step s = perform i { s with trace := rest } := by
  simp [step, fetch, htrace, decodeTrace_cons_of_ok hw hrest]

theorem perform_of_objection {i : Instr} {s : State} {r : Refusal} (h : objection i s = some r) :
    perform i s = .refused r := by
  simp [perform, h]

/-- Settles O5: the objection does not look at the trace, so it may be asked before the word is taken off. -/
theorem stepRunsTheDecodedOperation : Obligations.StepRunsTheDecodedOperation := by
  unfold Obligations.StepRunsTheDecodedOperation
  intro s w rest i later htrace hw hrest
  have hobjection : objection i { s with trace := rest } = objection i s := rfl
  rw [step_eq_perform htrace hw hrest]
  exact ⟨fun h => perform_of_no_objection (hobjection.trans h), fun r h => perform_of_objection (hobjection.trans h)⟩

/-- Settles O7: the empty trace decodes to no operation. -/
theorem emptyTraceIsRefused : Obligations.EmptyTraceIsRefused := by
  unfold Obligations.EmptyTraceIsRefused
  intro s h
  simp [step, fetch, h]

/-- The host's run, one step at a time. -/
theorem core_run_succ (k : Nat) (s : State) :
    (Sys2Proof.core.run (k + 1) s : Host.Outcome State Fault Refusal) = andThen (step s) (Sys2Proof.core.run k) := by
  have hstep : Sys2Proof.core.step s = step s := rfl
  refine (Host.Core.run.eq_2 Sys2Proof.core s k).trans ?_
  rw [hstep]
  cases step s <;> rfl

theorem run_of_words_eq_performAll (ops : List Instr) (s : State) :
    (Sys2Proof.core.run ops.length ({ s with trace := ops.map encode } : State) :
      Host.Outcome State Fault Refusal) = performAll ops { s with trace := [] } := by
  induction ops generalizing s with
  | nil => rfl
  | cons i ops ih =>
    have hrest : decodeTrace (ops.map encode) = .ok ops := (decodeTrace_eq_ok_iff_encode _ _).2 rfl
    rw [List.length_cons, core_run_succ, step_eq_perform rfl (decode_encode i) hrest, performAll_cons,
      perform_with_trace i s (ops.map encode), perform_with_trace i s []]
    cases perform i s with
    | next u => exact ih u
    | fault r => rfl
    | refused r => rfl

/-- Settles O6, by induction on the operations: a step performs the first, and no operation reads the rest of the
trace. -/
theorem runOfTheWordsPerformsTheOperations : Obligations.RunOfTheWordsPerformsTheOperations := by
  unfold Obligations.RunOfTheWordsPerformsTheOperations
  exact run_of_words_eq_performAll

/-! ### Refusals of a run -/

theorem objection_of_bad_parameters {s : State} (h : s.params.wellFormed = false) (i : Instr) :
    objection i s = some .notInstantiated := if_pos h

/-- Once `INIT` has been performed, only the delivery rule and the order of the handlers can forbid an operation. -/
theorem objection_of_started {s : State} (hp : s.params.wellFormed = true) (hstarted : s.started = true) (i : Instr) :
    objection i s =
      if i = .adv ∧ overdue s = true then some .handlerOverdue
      else if i = .tick ∧ deliverable .edge s = true ∧ deliverable .timer s = true then some .edgeFirst
      else none := by
  simp [objection, hp, hstarted]

/-- After `INIT`, an operation that is neither `ADV` nor `TICK` is its own meaning. -/
theorem perform_of_started {s : State} (hp : s.params.wellFormed = true) (hstarted : s.started = true) {i : Instr}
    (hadv : i ≠ .adv) (htick : i ≠ .tick) : perform i s = exec i s := by
  apply perform_of_no_objection
  simp [objection_of_started hp hstarted, hadv, htick]

/-- Settles O40: the delivery rule is the only one that speaks of `ADV` after `INIT`. -/
theorem advWaitsForAnOverdueHandler : Obligations.AdvWaitsForAnOverdueHandler := by
  unfold Obligations.AdvWaitsForAnOverdueHandler
  intro s hp hstarted
  have hiff : overdue s = true ↔ awaitsHandler s = true ∧ s.params.latMax ≤ s.waited := by
    rw [overdue, Bool.and_eq_true, decide_eq_true_iff]
  constructor
  · intro hawaits hlate
    apply perform_of_objection
    rw [objection_of_started hp hstarted, if_pos ⟨rfl, hiff.2 ⟨hawaits, hlate⟩⟩]
  · intro hnot
    apply perform_of_no_objection
    rw [objection_of_started hp hstarted, if_neg fun h => hnot (hiff.1 h.2), if_neg (by simp)]

/-- Settles O41: the order of the handlers refuses `TICK`, and `EDGE` clears the timer's flag. -/
theorem edgeStepsBeforeTick : Obligations.EdgeStepsBeforeTick := by
  unfold Obligations.EdgeStepsBeforeTick
  intro s hp hstarted hedge htimer
  constructor
  · apply perform_of_objection
    rw [objection_of_started hp hstarted, if_neg (by simp), if_pos ⟨rfl, hedge, htimer⟩]
  · refine ⟨effect .edge s, ?_, ?_⟩
    · rw [perform_of_started hp hstarted (by simp) (by simp)]
      exact exec_of_enabled hedge
    · have hflag : deliverable .timer (effect .edge s) = false := by simp [effect]
      have hadmitted : objection .tick (effect .edge s) = none :=
        objection_eq_none.2 ⟨hp, .inl hstarted, (nomatch ·), fun _ h => by simp [hflag] at h⟩
      rw [perform_of_no_objection hadmitted, exec_tick_of_not hflag]

theorem objection_ne_notInstantiated {s : State} (hp : s.params.wellFormed = true) (i : Instr) :
    objection i s ≠ some .notInstantiated := by
  rw [objection, if_neg (by simp [hp])]
  repeat' split
  all_goals simp

/-- With bad parameters no operation of a run is performed, and no other rule or meaning gives that refusal. -/
theorem perform_eq_notInstantiated_iff (i : Instr) (s : State) :
    perform i s = .refused .notInstantiated ↔ s.params.wellFormed = false := by
  cases hp : s.params.wellFormed with
  | false => simp [perform_of_objection (objection_of_bad_parameters hp i)]
  | true =>
    cases hobjection : objection i s with
    | none => simp [perform_of_no_objection hobjection, exec_ne_notInstantiated]
    | some r =>
      have hr : r ≠ .notInstantiated := fun h => objection_ne_notInstantiated hp i (h ▸ hobjection)
      simp [perform_of_objection hobjection, hr]

/-- Settles O42: the check is the conjunction of the constraints. -/
theorem badParametersInstantiateNothing : Obligations.BadParametersInstantiateNothing := by
  unfold Obligations.BadParametersInstantiateNothing
  intro i s
  rw [perform_eq_notInstantiated_iff, ← wellFormed_iff, Bool.not_eq_true]

/-! ### How a run begins (R231) -/

/-- Any `LINE`s are admitted before `INIT`, and move nothing but the line and the edge flag. -/
theorem performAll_lines_before_init (levels : List Level) (s : State) (hp : s.params.wellFormed = true)
    (hstarted : s.started = false) : ∃ u, performAll (levels.map Instr.line) s = .next u ∧
      u.params.wellFormed = true ∧ u.started = false ∧ u.line = levels.getLastD s.line := by
  induction levels generalizing s with
  | nil => exact ⟨s, rfl, hp, hstarted, rfl⟩
  | cons v levels ih =>
    have hadmitted : objection (.line v) s = none :=
      objection_eq_none.2 ⟨hp, .inr rfl, (nomatch ·), (nomatch ·)⟩
    rw [List.map_cons, performAll_cons, perform_of_no_objection hadmitted, exec_line, andThen_next]
    obtain ⟨u, hrun, hpu, hsu, hline⟩ := ih (driveLine v s) hp hstarted
    exact ⟨u, hrun, hpu, hsu, by rw [hline, driveLine_line, List.getLastD_cons]⟩

/-- Settles O11: the `LINE`s leave the run unstarted, so the next operation is refused unless it is `INIT`. -/
theorem runBeginsWithInit : Obligations.RunBeginsWithInit := by
  unfold Obligations.RunBeginsWithInit
  intro s levels hp hstarted
  obtain ⟨u, hrun, hpu, hsu, hline⟩ := performAll_lines_before_init levels s hp hstarted
  constructor
  · intro i hi
    have hobjection : objection i u = some .beforeInit := by
      rw [objection, if_neg (by simp [hpu]), if_pos ⟨hsu, hi⟩]
    rw [performAll_append, hrun, andThen_next, performAll_cons, perform_of_objection hobjection, andThen_refused]
  · have hadmitted : objection .init u = none := objection_eq_none.2 ⟨hpu, .inr rfl, (nomatch ·), (nomatch ·)⟩
    refine ⟨initialise u, ?_, rfl, rfl, hline, rfl⟩
    rw [performAll_append, hrun, andThen_next, performAll_cons, perform_of_no_objection hadmitted, exec_init,
      andThen_next, performAll_nil]

end Sys2Proof.Proofs.Runs
end

section
/-! PROOFS. Each operation on its own: its word, its agent, and its effect in every state. -/

namespace Sys2Proof.Proofs.EachOperation

open Sys2Proof Sys2Proof.Machine Sys2Proof.Proofs.Operations Sys2Proof.Proofs.NonInterference

/-! ### `INIT` -/

/-- Settles O9, by the definition of `INIT`. -/
theorem initCreatesTheReceiveState : Obligations.InitCreatesTheReceiveState := by
  unfold Obligations.InitCreatesTheReceiveState
  exact ⟨rfl, rfl, exec_init⟩

/-- Settles O10, on the literal reset state. -/
theorem resetIsTheStateAfterInit : Obligations.ResetIsTheStateAfterInit := by
  unfold Obligations.ResetIsTheStateAfterInit
  exact ⟨rfl, rfl, rfl, rfl, rfl, rfl, exec_init State.reset⟩

/-- A line at `START_LEVEL` put there again is no transition (R131). -/
theorem driveLine_startLevel_of_line {s : State} (h : s.line = s.params.startLevel) :
    driveLine s.params.startLevel s = s := by
  have hnone : startTransition s.params s.line s.params.startLevel = false := by
    simp [startTransition, Params.idleLevel, h]
  rw [driveLine, hnone, Bool.or_false, ← h]

/-- Settles O12: the state after `INIT` is a fixed point of `INIT` with both guards false. -/
theorem initInAnyStateAbandonsTheFrame : Obligations.InitInAnyStateAbandonsTheFrame := by
  unfold Obligations.InitInAnyStateAbandonsTheFrame
  intro s t h
  obtain ⟨-, rfl⟩ := exec_eq_next h
  refine ⟨rfl, rfl, rfl, exec_edge_of_not rfl, exec_tick_of_not rfl, ?_⟩
  intro hline u hu
  obtain ⟨-, rfl⟩ := exec_eq_next hu
  exact driveLine_startLevel_of_line (s := initialise s) hline

/-! ### `LINE` -/

/-- Settles O13, by whether the level change is a start transition. -/
theorem lineLatchesStartTransitions : Obligations.LineLatchesStartTransitions := by
  unfold Obligations.LineLatchesStartTransitions
  refine ⟨rfl, rfl, fun v s => ⟨rfl, ?_, ?_⟩⟩
  · intro hidle hstart
    rw [exec_line, driveLine, startTransition_eq_true_iff.2 ⟨hidle, hstart⟩, Bool.or_true]
  · intro hnot
    rw [exec_line, driveLine, Bool.eq_false_iff.2 (startTransition_eq_true_iff.not.2 hnot), Bool.or_false]

/-! ### `EDGE` -/

/-- What `EDGE` leaves (R133), with the compare value in full: `FIRST_CMP` fits the timer (R10). -/
theorem effect_edge_eq {s : State} (hp : s.params.wellFormed = true) : effect .edge s = { s with
    edgeFlag := false, edgeEn := false, tmrCnt := 0, tmrFlag := false
    tmrCmp := s.params.bitTicks + s.params.halfBitTicks, tmrEn := true, bitCnt := 0, rxState := .receiving
    waited := 0 } := by
  have hcmp : s.params.timerWord s.params.firstCmp = s.params.bitTicks + s.params.halfBitTicks :=
    timerWord_firstCmp hp
  rw [← hcmp]
  rfl

/-- Settles O14, by the guard of `EDGE`. -/
theorem edgeBeginsAFrame : Obligations.EdgeBeginsAFrame := by
  unfold Obligations.EdgeBeginsAFrame
  refine ⟨rfl, rfl, fun s hp => ⟨?_, ?_⟩⟩
  · intro hen hflag
    have hguard : deliverable .edge s = true := by simp [hen, hflag]
    rw [← effect_edge_eq hp]
    exact exec_of_enabled hguard
  · intro hnot
    exact exec_edge_of_not (by simpa [← Bool.not_eq_true] using hnot)

/-- Settles O15: `EDGE` does not look at the receive state, which it overwrites. -/
theorem edgeInByteReadyHidesTheUnreadByte : Obligations.EdgeInByteReadyHidesTheUnreadByte := by
  unfold Obligations.EdgeInByteReadyHidesTheUnreadByte
  intro s hstarted _ hen hflag
  have hguard : deliverable .edge s = true := by simp [hen, hflag]
  have hguard' : deliverable .edge { s with rxState := .idle } = true := hguard
  have hexec : exec .edge s = .next (effect .edge s) := exec_of_enabled hguard
  refine ⟨hexec.trans (exec_of_enabled (i := .edge) hguard').symm, effect .edge s, hexec, rfl, rfl, ?_, ?_⟩
  · simp [exec_rdst, effect, statusRead, hstarted, RxState.code]
  · simp [exec_rdbyte, effect, byteRead, State.byteAvailable]

/-- Settles O16: in `Receiving` the edge interrupt is off, and `LINE` does not write its enable. -/
theorem noStartDetectionDuringAByte : Obligations.NoStartDetectionDuringAByte := by
  unfold Obligations.NoStartDetectionDuringAByte
  intro s inv hstate
  have hoff : s.edgeEn = false := (inv.receiving hstate).2
  refine ⟨exec_edge_of_not (by simp [hoff]), fun v t h => ?_⟩
  obtain ⟨-, rfl⟩ := exec_eq_next h
  exact exec_edge_of_not (by simp [effect_edgeEn, hoff])

/-! ### `ADV` -/

/-- Settles O17: the timer stands still, matches or counts. -/
theorem advCountsOneTick : Obligations.AdvCountsOneTick := by
  unfold Obligations.AdvCountsOneTick
  refine ⟨rfl, rfl, fun s => ⟨_, rfl, ?_, ?_, ?_⟩⟩
  · intro hoff
    rw [exec_adv, clockTimer_of_disabled (s := passTick s) hoff]
    rfl
  · intro hon hmatch
    have hmatch : (passTick s).nextCount = (passTick s).tmrCmp := hmatch
    rw [exec_adv, clockTimer_eq, if_pos ⟨hon, hmatch⟩, if_pos (c := (passTick s).tmrEn = true) hon, if_pos hmatch]
    rfl
  · intro hon hcount
    have hcount : (passTick s).nextCount ≠ (passTick s).tmrCmp := hcount
    rw [exec_adv, clockTimer_eq, if_neg fun h => hcount h.2, if_pos (c := (passTick s).tmrEn = true) hon,
      if_neg hcount]
    rfl

/-! ### `TICK` -/

section
variable {s : State}

/-- The completion (R156). -/
theorem effect_tick_of_last (hp : s.params.wellFormed = true) (hstate : s.rxState = .receiving)
    (hlast : s.bitCnt = 7) : effect .tick s = { s with
      tmrFlag := false, shiftReg := shiftIn (s.params.sampleBit s.line) s.shiftReg, tmrCmp := s.params.bitTicks
      rxByte := shiftIn (s.params.sampleBit s.line) s.shiftReg, rxState := .byteReady
      tmrEn := false, edgeEn := true, edgeFlag := false, bitCnt := 0, waited := 0 } := by
  rw [← timerWord_bitTicks hp, effect, sampleLine]
  exact (if_pos hstate).trans (if_pos hlast)

/-- A sample before the eighth (R155). -/
theorem effect_tick_of_not_last (hp : s.params.wellFormed = true) (hstate : s.rxState = .receiving)
    (hearly : s.bitCnt ≠ 7) : effect .tick s = { s with
      tmrFlag := false, shiftReg := shiftIn (s.params.sampleBit s.line) s.shiftReg, tmrCmp := s.params.bitTicks
      bitCnt := s.bitCnt + 1, waited := 0 } := by
  rw [← timerWord_bitTicks hp, effect, sampleLine]
  exact (if_pos hstate).trans (if_neg hearly)

/-- A match outside `Receiving` (R157). -/
theorem effect_tick_of_not_receiving (hstate : s.rxState ≠ .receiving) :
    effect .tick s = { s with tmrFlag := false, waited := 0 } := if_neg hstate

end

/-- Settles O18, by the guard of `TICK` and the three cases of its body. -/
theorem tickTakesASample : Obligations.TickTakesASample := by
  unfold Obligations.TickTakesASample
  refine ⟨rfl, rfl, fun s hp => ⟨_, rfl, ?_, ?_, ?_, ?_⟩⟩
  · intro hen hflag hstate hlast
    exact (exec_of_enabled (i := .tick) (by simp [enabled, hen, hflag])).trans
      (congrArg _ (effect_tick_of_last hp hstate hlast))
  · intro hen hflag hstate hearly
    exact (exec_of_enabled (i := .tick) (by simp [enabled, hen, hflag])).trans
      (congrArg _ (effect_tick_of_not_last hp hstate hearly))
  · intro hen hflag hstate
    exact (exec_of_enabled (i := .tick) (by simp [enabled, hen, hflag])).trans
      (congrArg _ (effect_tick_of_not_receiving hstate))
  · intro hnot
    exact exec_tick_of_not (by simpa [← Bool.not_eq_true] using hnot)

/-- Settles O19: the completion leaves the edge interrupt on and its flag clear, so the guard of `EDGE` afterwards is
the flag that `LINE` latches. -/
theorem completionDiscardsStaleTransitions : Obligations.CompletionDiscardsStaleTransitions := by
  unfold Obligations.CompletionDiscardsStaleTransitions
  intro s t hstate hlast h
  obtain ⟨-, rfl⟩ := exec_eq_next h
  have hen : (effect .tick s).edgeEn = true := by simp [effect_edgeEn, hstate, hlast]
  have hflag : (effect .tick s).edgeFlag = false := by simp [effect_edgeFlag, hstate, hlast]
  refine ⟨exec_edge_of_not (by simp [hflag]), fun v u hu => ?_⟩
  obtain ⟨-, rfl⟩ := exec_eq_next hu
  rw [Interrupts.exec_edge_has_next_iff, ← startTransition_eq_true_iff]
  simp [effect.eq_def (.line v), hen, hflag]

theorem toNat_add_one_of_ne_seven {c : BitVec 3} (h : c ≠ 7) : (c + 1).toNat = c.toNat + 1 := by
  have hlt : c.toNat < 8 := c.isLt
  have hne : c.toNat ≠ 7 := fun e => h (BitVec.eq_of_toNat_eq e)
  rw [BitVec.toNat_add]
  exact Nat.mod_eq_of_lt (by simpa using (by omega : c.toNat + 1 < 8))

/-- Settles O20: the shift by its bits and as a number, `bit_cnt` because the counting sample is not the eighth, and
the timer by the invariants. -/
theorem shiftAndCountsNeverWrap : Obligations.ShiftAndCountsNeverWrap := by
  unfold Obligations.ShiftAndCountsNeverWrap
  refine ⟨fun b r => ⟨shiftIn_getLsbD_seven b r, fun k hk => shiftIn_getLsbD_of_lt b r hk, shiftIn_toNat b r⟩, ?_, ?_⟩
  · intro s t hstate hearly h
    obtain ⟨-, rfl⟩ := exec_eq_next h
    rw [effect_bitCnt]
    simp only [if_pos hstate, if_neg hearly]
    exact toNat_add_one_of_ne_seven hearly
  · intro s t inv hon h
    obtain ⟨-, rfl⟩ := exec_eq_next h
    have hnext : (passTick s).nextCount = s.tmrCnt + 1 := Invariants.nextCount_eq (s := s) inv hon
    have hlt := inv.counting hon
    rw [effect, clockTimer_eq]
    simp only [passTick_tmrEn, hon, hnext, passTick_tmrCmp, if_true]
    split <;> omega

/-! ### `RDST`, `RDBYTE` and `CLR` -/

theorem exec_rdst_of_started {s : State} (h : s.started = true) :
    exec .rdst s = .next { s with returns := s.returns ++ [.status s.rxState.code] } := by
  simp [exec_rdst, effect, statusRead, h]

theorem exec_rdbyte_of_available {s : State} (hstarted : s.started = true) (hstate : s.rxState = .byteReady) :
    exec .rdbyte s = .next { s with returns := s.returns ++ [.byte s.rxByte] } := by
  simp [exec_rdbyte, effect, byteRead, State.byteAvailable, hstarted, hstate]

theorem exec_rdbyte_of_not_available {s : State} (h : ¬(s.started = true ∧ s.rxState = .byteReady)) :
    exec .rdbyte s = .next
      { s with returns := s.returns ++ [.draw (Config.draw8 s.draws)], draws := s.draws + 1 } := by
  have hnone : s.byteAvailable = false := by simpa [State.byteAvailable] using h
  simp [exec_rdbyte, effect, byteRead, hnone]

/-- Settles O25, by whether an `INIT` has been performed. -/
theorem rdstReturnsTheReceiveState : Obligations.RdstReturnsTheReceiveState := by
  unfold Obligations.RdstReturnsTheReceiveState
  refine ⟨rfl, rfl, rfl, rfl, rfl, fun s => ⟨exec_rdst_of_started, fun h => ?_⟩⟩
  simp [exec_rdst, effect, statusRead, h]

/-- Settles O26, by whether a byte is available. -/
theorem rdbyteReturnsTheByteOrADraw : Obligations.RdbyteReturnsTheByteOrADraw := by
  unfold Obligations.RdbyteReturnsTheByteOrADraw
  exact ⟨rfl, rfl, fun s => ⟨exec_rdbyte_of_available, exec_rdbyte_of_not_available⟩⟩

/-- Settles O27: `CLR` is one write, and it leaves the enables. -/
theorem clrWritesIdle : Obligations.ClrWritesIdle := by
  unfold Obligations.ClrWritesIdle
  refine ⟨rfl, rfl, exec_clr, fun s t _ hon hoff h => ?_⟩
  obtain ⟨-, rfl⟩ := exec_eq_next h
  exact ⟨rfl, hon, hoff⟩

/-- Settles O28: a read leaves what decides the next one. -/
theorem readsMayBeRepeated : Obligations.ReadsMayBeRepeated := by
  unfold Obligations.ReadsMayBeRepeated
  intro s t u hstarted
  refine ⟨?status, ?byte, ?draw⟩
  case status =>
    intro ht hu
    obtain ⟨-, rfl⟩ := exec_eq_next ht
    obtain ⟨-, rfl⟩ := exec_eq_next hu
    simp [effect, statusRead, hstarted]
  case byte =>
    intro hstate ht hu
    obtain ⟨-, rfl⟩ := exec_eq_next ht
    obtain ⟨-, rfl⟩ := exec_eq_next hu
    simp [effect, byteRead, State.byteAvailable, hstarted, hstate]
  case draw =>
    intro hstate ht hu
    obtain ⟨-, rfl⟩ := exec_eq_next ht
    obtain ⟨-, rfl⟩ := exec_eq_next hu
    simp [effect, byteRead, State.byteAvailable, hstate]

end Sys2Proof.Proofs.EachOperation
end

section
/-! PROOFS. The consumer's `POLL` (R104, R186), and the wedge that its `CLR` can leave (R243). -/

namespace Sys2Proof.Proofs.Wedge

open Sys2Proof Sys2Proof.Machine Sys2Proof.Proofs.Words Sys2Proof.Proofs.Operations Sys2Proof.Proofs.Invariants
open Sys2Proof.Proofs.Runs Sys2Proof.Proofs.EachOperation

/-! ### `POLL` -/

/-- After `INIT` an operation whose guard holds, and of which no delivery is owed, has its effect. -/
theorem perform_eq_effect_of_started {s : State} (hp : s.params.wellFormed = true) (hstarted : s.started = true)
    {i : Instr} (hadv : i ≠ .adv) (htick : i ≠ .tick) (henabled : enabled i s = true) :
    perform i s = .next (effect i s) := by
  rw [perform_of_started hp hstarted hadv htick, exec_of_enabled henabled]

theorem effect_rdst_of_started {s : State} (h : s.started = true) :
    effect .rdst s = giveBack (.status s.rxState.code) s := by
  simp [effect, statusRead, giveBack, h]

theorem effect_rdbyte_of_available {s : State} (hstarted : s.started = true) (hstate : s.rxState = .byteReady) :
    effect .rdbyte s = giveBack (.byte s.rxByte) s := by
  simp [effect, byteRead, State.byteAvailable, giveBack, hstarted, hstate]

/-- The consumer reads its byte: the first two accesses of `POLL` in `ByteReady`. -/
theorem perform_reads_of_available {s : State} (hp : s.params.wellFormed = true) (hstarted : s.started = true)
    (hstate : s.rxState = .byteReady) :
    perform .rdst s = .next (giveBack (.status 2) s) ∧
    perform .rdbyte (giveBack (.status 2) s) = .next (giveBack (.byte s.rxByte) (giveBack (.status 2) s)) := by
  constructor
  · rw [perform_eq_effect_of_started hp hstarted (by simp) (by simp) rfl, effect_rdst_of_started hstarted, hstate]
    rfl
  · have hread := effect_rdbyte_of_available (s := giveBack (.status 2) s) hstarted hstate
    exact (perform_eq_effect_of_started (s := giveBack (.status 2) s) hp hstarted (by simp) (by simp) rfl).trans
      (congrArg _ hread)

/-- No other receive state has the code of `ByteReady` (R102). -/
theorem code_eq_byteReady_iff (x : RxState) : x.code = RxState.byteReady.code ↔ x = .byteReady := by
  cases x <;> decide

/-- Settles O29: the code that `RDST` returned decides whether the other two accesses are made. -/
theorem pollReturnsTheByteAndReleases : Obligations.PollReturnsTheByteAndReleases := by
  unfold Obligations.PollReturnsTheByteAndReleases
  intro s hp hstarted
  constructor
  · intro hstate
    obtain ⟨hstatus, hbyte⟩ := perform_reads_of_available hp hstarted hstate
    have hclr := perform_eq_effect_of_started (i := .clr) (s := giveBack (.byte s.rxByte) (giveBack (.status 2) s))
      hp hstarted (by simp) (by simp) rfl
    rw [poll, hstatus, andThen_next, if_pos (by simp [RxState.code]), hbyte, andThen_next, hclr]
    simp [effect, giveBack, release]
  · intro hstate
    have hstatus := perform_eq_effect_of_started (i := .rdst) hp hstarted (by simp) (by simp) rfl
    rw [poll, hstatus, effect_rdst_of_started hstarted, andThen_next,
      if_neg (by simpa [code_eq_byteReady_iff] using hstate)]
    rfl

/-! ### How the wedge comes about -/

/-- Settles O46: the reads leave the edge interrupt deliverable, `EDGE` swaps the enables, and `CLR` writes `Idle` over
the `Receiving` it finds. -/
theorem clrAfterEdgeWedgesTheReceiver : Obligations.ClrAfterEdgeWedgesTheReceiver := by
  unfold Obligations.ClrAfterEdgeWedgesTheReceiver
  intro s inv hstate hflag
  obtain ⟨hstatus, hbyte⟩ := perform_reads_of_available inv.instantiated inv.started hstate
  have hguard : deliverable .edge s = true := by simp [(inv.byteReady hstate).1, hflag]
  have hedge := perform_eq_effect_of_started (i := .edge) (s := giveBack (.byte s.rxByte) (giveBack (.status 2) s))
    inv.instantiated inv.started (by simp) (by simp) hguard
  have hclr := perform_eq_effect_of_started (i := .clr)
    (s := effect .edge (giveBack (.byte s.rxByte) (giveBack (.status 2) s)))
    inv.instantiated inv.started (by simp) (by simp) rfl
  refine ⟨effect .clr (effect .edge (giveBack (.byte s.rxByte) (giveBack (.status 2) s))), ?_, ⟨rfl, rfl, rfl⟩, ?_⟩
  · rw [performAll_cons, hstatus, andThen_next, performAll_cons, hbyte, andThen_next, performAll_cons, hedge,
      andThen_next, performAll_cons, hclr, andThen_next, performAll_nil]
  · simp [effect]

/-! ### The wedge lasts until `INIT` -/

/-- An operation other than `INIT` finds a wedged receiver with `EDGE` off and no byte to complete. -/
theorem wedged_effect {i : Instr} {s : State} (hi : i ≠ .init) (hwedged : Wedged s) (henabled : enabled i s = true) :
    Wedged (effect i s) := by
  obtain ⟨hstate, hon, hoff⟩ := hwedged
  rw [Wedged, effect_rxState, effect_tmrEn, effect_edgeEn]
  cases i with
  | init => exact absurd rfl hi
  | edge => simp [enabled, hoff] at henabled
  | tick => simp [hstate, hon, hoff]
  | line | adv | rdst | rdbyte | clr => simp [hstate, hon, hoff]

/-- Settles O47: the word a step takes off is the encoding of the operation it performs, and only that of `INIT` is
0x00. -/
theorem everyStepButInitKeepsTheWedge : Obligations.EveryStepButInitKeepsTheWedge := by
  unfold Obligations.EveryStepButInitKeepsTheWedge
  intro s t hwedged hhead h
  obtain ⟨i, s', hfetch, hperform⟩ := step_eq_next.1 h
  obtain ⟨later, htrace, rfl⟩ := fetch_eq_ok.1 hfetch
  have hi : i ≠ .init := by
    rintro rfl
    rw [← (decodeTrace_eq_ok_iff_encode _ _).1 htrace] at hhead
    exact hhead rfl
  obtain ⟨-, henabled, rfl⟩ := perform_eq_next_effect hperform
  exact wedged_effect hi (s := { s with trace := s.trace.tail }) hwedged henabled

/-- What a run without `INIT` has made of the wedged state `s`: it is wedged still, its registers are kept, and what it
returned to the consumer since are codes of `Idle` and draws. -/
structure WedgedSince (s u : State) : Prop where
  wedged : Wedged u
  started : u.started = true
  rxByte : u.rxByte = s.rxByte
  shiftReg : u.shiftReg = s.shiftReg
  bitCnt : u.bitCnt = s.bitCnt
  returns : ∃ new, u.returns = s.returns ++ new ∧ ∀ r ∈ new, r = .status 0 ∨ ∃ b, r = .draw b

theorem wedgedSince_refl {s : State} (hwedged : Wedged s) (hstarted : s.started = true) : WedgedSince s s :=
  ⟨hwedged, hstarted, rfl, rfl, rfl, [], by simp, by simp⟩

/-- What an operation returns to the consumer of a wedged receiver. -/
theorem effect_returns_of_wedged {i : Instr} {s : State} (hwedged : Wedged s) (hstarted : s.started = true) :
    ∃ new, (effect i s).returns = s.returns ++ new ∧ ∀ r ∈ new, r = .status 0 ∨ ∃ b, r = .draw b := by
  have hstatus : statusRead s = .status 0 := by simp [statusRead, hstarted, hwedged.1, RxState.code]
  have hbyte : byteRead s = .draw (Config.draw8 s.draws) := by simp [byteRead, State.byteAvailable, hwedged.1]
  cases i with
  | rdst => exact ⟨_, rfl, by simp [hstatus]⟩
  | rdbyte => exact ⟨_, rfl, by simp [hbyte]⟩
  | init | line | adv | edge | tick | clr => exact ⟨[], by simp [effect], by simp⟩

theorem wedgedSince_perform {s u v : State} {i : Instr} (hi : i ≠ .init) (h : WedgedSince s u)
    (hperform : perform i u = .next v) : WedgedSince s v := by
  obtain ⟨-, henabled, rfl⟩ := perform_eq_next_effect hperform
  have hidle : u.rxState ≠ .receiving := by simp [h.wedged.1]
  obtain ⟨old, hold, hkind⟩ := h.returns
  obtain ⟨new, hnew, hkind'⟩ := effect_returns_of_wedged (i := i) h.wedged h.started
  have hrxByte : (effect i u).rxByte = u.rxByte := by
    rw [effect_rxByte]
    cases i <;> simp [hidle]
  have hshiftReg : (effect i u).shiftReg = u.shiftReg := by
    rw [effect_shiftReg]
    cases i <;> simp [hidle]
  have hbitCnt : (effect i u).bitCnt = u.bitCnt := by
    rw [effect_bitCnt]
    obtain ⟨-, -, hoff⟩ := h.wedged
    cases i with
    | edge => simp [enabled, hoff] at henabled
    | init | line | adv | tick | rdst | rdbyte | clr => simp [hidle]
  exact
    { wedged := wedged_effect hi h.wedged henabled
      started := effect_started i u h.started
      rxByte := hrxByte.trans h.rxByte
      shiftReg := hshiftReg.trans h.shiftReg
      bitCnt := hbitCnt.trans h.bitCnt
      returns := ⟨old ++ new, by rw [hnew, hold, List.append_assoc],
        fun r hr => (List.mem_append.1 hr).elim (hkind r) (hkind' r)⟩ }

/-- Settles O48: `WedgedSince` is kept along the run, and neither a code nor a draw delivers a byte. -/
theorem wedgedReceiverDeliversNothing : Obligations.WedgedReceiverDeliversNothing := by
  unfold Obligations.WedgedReceiverDeliversNothing
  intro s t ops hwedged hstarted hinit hrun
  have h : WedgedSince s t :=
    performAll_keeps (P := (· ≠ .init)) (fun _ _ _ hi hu hp => wedgedSince_perform hi hu hp) ops s t
      (fun i hi hne => hinit (hne ▸ hi)) (wedgedSince_refl hwedged hstarted) hrun
  obtain ⟨new, hreturns, hkind⟩ := h.returns
  refine ⟨h.wedged, h.rxByte, h.shiftReg, h.bitCnt, ?delivered, new, hreturns, ?codes⟩
  case delivered =>
    have hnone : new.filterMap Returned.delivers = [] := by
      rw [List.filterMap_eq_nil_iff]
      intro r hr
      obtain rfl | ⟨b, rfl⟩ := hkind r hr <;> rfl
    rw [State.delivered, State.delivered, hreturns, List.filterMap_append, hnone, List.append_nil]
  case codes =>
    intro c hc
    obtain h | ⟨b, h⟩ := hkind _ hc
    · exact Returned.status.inj h
    · nomatch h

end Sys2Proof.Proofs.Wedge
end

section
/-! PROOFS. Sampling: the shift law (R158), the timer's period (R152), and how many samples a byte takes (R49, R80). -/

namespace Sys2Proof.Proofs.Sampling

open Sys2Proof Sys2Proof.Machine Sys2Proof.Proofs.Operations Sys2Proof.Proofs.Invariants
open Sys2Proof.Proofs.NonInterference Sys2Proof.Proofs.EachOperation

/-! ### What a sample does -/

/-- A sample before the eighth shifts and counts. -/
theorem effect_tick_early {s : State} (hstate : s.rxState = .receiving) (hearly : s.bitCnt ≠ 7) :
    (effect .tick s).rxState = .receiving ∧ (effect .tick s).bitCnt.toNat = s.bitCnt.toNat + 1 ∧
    (effect .tick s).shiftReg = shiftIn (s.params.sampleBit s.line) s.shiftReg ∧
    (effect .tick s).rxByte = s.rxByte ∧ (effect .tick s).tmrEn = s.tmrEn := by
  rw [effect_rxState, effect_bitCnt, effect_shiftReg, effect_rxByte, effect_tmrEn]
  have hnext := toNat_add_one_of_ne_seven hearly
  simp only [hstate, hearly, hnext, and_false, if_false, if_true, and_self]

/-- The eighth sample shifts and completes the byte. -/
theorem effect_tick_last {s : State} (hstate : s.rxState = .receiving) (hlast : s.bitCnt = 7) :
    (effect .tick s).rxState = .byteReady ∧ (effect .tick s).bitCnt = 0 ∧
    (effect .tick s).shiftReg = shiftIn (s.params.sampleBit s.line) s.shiftReg ∧
    (effect .tick s).rxByte = (effect .tick s).shiftReg ∧ (effect .tick s).tmrEn = false ∧
    (effect .tick s).edgeFlag = false := by
  simp [effect_rxState, effect_bitCnt, effect_shiftReg, effect_rxByte, effect_tmrEn, effect_edgeFlag, hstate, hlast]

theorem toNat_eq_seven_iff {c : BitVec 3} : c.toNat = 7 ↔ c = 7 := BitVec.toNat_inj (y := 7)

/-! ### The shift law -/

/-- Samples from the middle of a frame: the shifts one after the other, and the completion with the eighth. -/
theorem sampleAll_of_receiving (levels : List Level) (s : State) (hstate : s.rxState = .receiving)
    (hon : s.tmrEn = true) (hlen : s.bitCnt.toNat + levels.length ≤ 8) :
    ∃ t, sampleAll levels s = .next t ∧
      t.shiftReg = (levels.map s.params.sampleBit).foldl (fun r b => shiftIn b r) s.shiftReg ∧
      (s.bitCnt.toNat + levels.length < 8 →
        t.rxState = .receiving ∧ t.bitCnt.toNat = s.bitCnt.toNat + levels.length ∧ t.rxByte = s.rxByte) ∧
      (s.bitCnt.toNat + levels.length = 8 → t.rxState = .byteReady ∧ t.rxByte = t.shiftReg) := by
  induction levels generalizing s with
  | nil =>
    have hlt : s.bitCnt.toNat < 8 := s.bitCnt.isLt
    exact ⟨s, rfl, rfl, fun _ => ⟨hstate, rfl, rfl⟩, fun h => absurd h (by simpa using hlt.ne)⟩
  | cons l levels ih =>
    rw [List.length_cons] at hlen ⊢
    have hguard : deliverable .timer { s with line := l, tmrFlag := true } = true := by simp [hon]
    have hexec := exec_of_enabled (i := .tick) hguard
    rw [sampleAll, hexec, andThen_next, List.map_cons, List.foldl_cons]
    by_cases hlast : s.bitCnt = 7
    case pos =>
      obtain ⟨hready, -, hshift, hbyte, -⟩ :=
        effect_tick_last (s := { s with line := l, tmrFlag := true }) hstate hlast
      have hseven := toNat_eq_seven_iff.2 hlast
      obtain rfl : levels = [] := List.length_eq_zero_iff.1 (by omega)
      exact ⟨_, rfl, hshift, fun h => by rw [List.length_nil] at h; omega, fun _ => ⟨hready, hbyte⟩⟩
    case neg =>
      obtain ⟨hrec, hcnt, hshift, hbyte, hen⟩ :=
        effect_tick_early (s := { s with line := l, tmrFlag := true }) hstate hlast
      have hcnt : _ = s.bitCnt.toNat + 1 := hcnt
      obtain ⟨t, hrun, hreg, hmid, hend⟩ := ih _ hrec (hen.trans hon) (by omega)
      rw [hshift, effect_params] at hreg
      refine ⟨t, hrun, hreg, fun h => ?_, fun h => hend (by omega)⟩
      obtain ⟨hrec', hcnt', hbyte'⟩ := hmid (by omega)
      exact ⟨hrec', by omega, hbyte'.trans hbyte⟩

/-- Settles O21: the samples are shifts, and the shift law for lists of bits says where each ends up. -/
theorem shiftLaw : Obligations.ShiftLaw := by
  unfold Obligations.ShiftLaw
  intro s levels hstate hzero hon hlen
  have hcnt : s.bitCnt.toNat = 0 := by rw [hzero]; rfl
  obtain ⟨t, hrun, hreg, hmid, hend⟩ := sampleAll_of_receiving levels s hstate hon (by omega)
  obtain ⟨hold, hnew⟩ := foldl_shiftIn_getLsbD (levels.map s.params.sampleBit) s.shiftReg (by simpa using hlen)
  rw [← hreg, List.length_map] at hold hnew
  rw [hcnt, Nat.zero_add] at hmid hend
  exact ⟨t, hrun, hold, fun k l hl => hnew k _ (by simp [hl, Params.sampleBit]), hmid, hend⟩

/-! ### The timer's period -/

/-- A tick that leaves the counter below the compare value. -/
theorem effect_adv_of_counting {s : State} (hon : s.tmrEn = true) (hcnt : s.tmrCnt + 1 < s.tmrCmp)
    (hwidth : s.tmrCmp < 2 ^ s.params.tmrW) : effect .adv s = { passTick s with tmrCnt := s.tmrCnt + 1 } := by
  have hnext : (passTick s).nextCount = s.tmrCnt + 1 := timerWord_of_lt (hcnt.trans hwidth)
  obtain ⟨hoff, -⟩ | ⟨-, hmatch, -⟩ | ⟨-, -, hs⟩ := clockTimer_cases (passTick s)
  · simp [hon] at hoff
  · rw [hnext, passTick_tmrCmp] at hmatch
    omega
  · rw [effect, hs, hnext]

/-- The tick that brings the counter to the compare value. -/
theorem effect_adv_of_match {s : State} (hon : s.tmrEn = true) (hcnt : s.tmrCnt + 1 = s.tmrCmp)
    (hwidth : s.tmrCmp < 2 ^ s.params.tmrW) : effect .adv s = { passTick s with tmrCnt := 0, tmrFlag := true } := by
  have hnext : (passTick s).nextCount = s.tmrCnt + 1 := timerWord_of_lt (hcnt ▸ hwidth)
  obtain ⟨hoff, -⟩ | ⟨-, -, hs⟩ | ⟨-, hcount, -⟩ := clockTimer_cases (passTick s)
  · simp [hon] at hoff
  · rw [effect, hs]
  · exact absurd (hnext.trans hcnt) hcount

theorem advAll_succ (n : Nat) (s : State) : advAll (n + 1) s = advAll n (effect .adv s) := rfl

/-- Settles O22, by induction on the ticks: each one but the last leaves the counter below the compare value. -/
theorem timerMatchesAfterItsPeriod : Obligations.TimerMatchesAfterItsPeriod := by
  unfold Obligations.TimerMatchesAfterItsPeriod
  intro s n
  induction n generalizing s with
  | zero =>
    intro hon hcnt _
    exact ⟨fun _ => ⟨s, rfl, rfl, rfl, hon, rfl, rfl⟩, fun h => by omega⟩
  | succ n ih =>
    intro hon hcnt hwidth
    rw [advAll_succ]
    obtain hlt | heq := (Nat.succ_le_of_lt hcnt).lt_or_eq
    case inl =>
      rw [effect_adv_of_counting hon hlt hwidth]
      obtain ⟨hbelow, hmatch⟩ := ih { passTick s with tmrCnt := s.tmrCnt + 1 } hon hlt hwidth
      simp only [passTick_tmrFlag, passTick_tmrCmp, passTick_time] at hbelow hmatch
      rw [Nat.add_comm n 1, ← Nat.add_assoc, ← Nat.add_assoc]
      exact ⟨hbelow, hmatch⟩
    case inr =>
      rw [effect_adv_of_match hon heq hwidth]
      refine ⟨fun h => by omega, fun h => ?_⟩
      obtain rfl : n = 0 := by omega
      exact ⟨_, rfl, rfl, rfl, hon, rfl, rfl⟩

/-! ### `bit_cnt` counts the `TICK`s -/

/-- `n` samples have been taken since the start of the frame, and the eighth completed the byte. -/
def SamplesTaken (n : Nat) (s : State) : Prop :=
  (n < 8 ∧ s.rxState = .receiving ∧ s.bitCnt.toNat = n) ∨
  (n = 8 ∧ s.rxState = .byteReady ∧ s.bitCnt = 0 ∧ s.tmrEn = false)

theorem samplesTaken_tick {n : Nat} {s : State} (h : SamplesTaken n s) (henabled : enabled .tick s = true) :
    SamplesTaken (n + 1) (effect .tick s) := by
  obtain ⟨hn, hstate, hcnt⟩ | ⟨-, -, -, hoff⟩ := h
  · by_cases hlast : s.bitCnt = 7
    · obtain ⟨hready, hzero, -, -, hoff, -⟩ := effect_tick_last hstate hlast
      have hseven := toNat_eq_seven_iff.2 hlast
      exact .inr ⟨by omega, hready, hzero, hoff⟩
    · obtain ⟨hrec, hnext, -⟩ := effect_tick_early hstate hlast
      have hne := toNat_eq_seven_iff.not.2 hlast
      exact .inl ⟨by omega, hrec, by omega⟩
  · simp [enabled, hoff] at henabled

theorem samplesTaken_of_ne_tick {n : Nat} {s : State} {i : Instr} (h : SamplesTaken n s) (htick : i ≠ .tick)
    (hi : i ≠ .init ∧ i ≠ .clr ∧ i ≠ .edge) : SamplesTaken n (effect i s) := by
  rw [SamplesTaken, effect_rxState, effect_bitCnt, effect_tmrEn]
  obtain ⟨hinit, hclr, hedge⟩ := hi
  cases i with
  | line | adv | rdst | rdbyte => exact h
  | init | clr | edge | tick => contradiction

theorem samplesTaken_performAll {n : Nat} {s t : State} {ops : List Instr} (h : SamplesTaken n s)
    (hops : ∀ i ∈ ops, i ≠ .init ∧ i ≠ .clr ∧ i ≠ .edge) (hrun : performAll ops s = .next t) :
    SamplesTaken (n + ops.count .tick) t := by
  induction ops generalizing n s with
  | nil =>
    obtain rfl : s = t := by simpa using hrun
    exact h
  | cons i ops ih =>
    obtain ⟨u, hperform, hrest⟩ := andThen_eq_next.1 hrun
    obtain ⟨-, henabled, rfl⟩ := perform_eq_next_effect hperform
    have hi := hops i List.mem_cons_self
    have hops' : ∀ j ∈ ops, j ≠ .init ∧ j ≠ .clr ∧ j ≠ .edge := fun j hj => hops j (List.mem_cons_of_mem i hj)
    by_cases htick : i = .tick
    · subst htick
      rw [List.count_cons_self, Nat.add_comm _ 1, ← Nat.add_assoc]
      exact ih (samplesTaken_tick h henabled) hops' hrest
    · rw [List.count_cons_of_ne htick]
      exact ih (samplesTaken_of_ne_tick h htick hi) hops' hrest

/-- Settles O23: the number of samples taken is the number of `TICK`s, from none on. -/
theorem bitCounterCountsTheTicks : Obligations.BitCounterCountsTheTicks := by
  unfold Obligations.BitCounterCountsTheTicks
  intro s t ops hstate hzero hops hrun
  have hstart : SamplesTaken 0 s := .inl ⟨by omega, hstate, by rw [hzero]; rfl⟩
  have h := samplesTaken_performAll hstart hops hrun
  rw [Nat.zero_add] at h
  obtain ⟨hn, hrec, hcnt⟩ | ⟨hn, hready, hcnt, -⟩ := h
  · exact ⟨hn.le, fun _ => ⟨hrec, hcnt⟩, fun h => by omega⟩
  · exact ⟨hn.le, fun h => by omega, fun _ => ⟨hready, hcnt⟩⟩

/-! ### What a byte takes -/

/-- The `TICK`s still to be performed before a byte is ready. -/
def owedTicks (s : State) : Nat :=
  match s.rxState with
  | .idle => 8
  | .receiving => 8 - s.bitCnt.toNat
  | .byteReady => 0

/-- The `EDGE`s still to be performed before a byte is ready. -/
def owedEdges (s : State) : Nat :=
  match s.rxState with
  | .idle => 1
  | .receiving | .byteReady => 0

theorem owedTicks_le (s : State) : owedTicks s ≤ 8 := by
  unfold owedTicks
  split <;> omega

theorem owedTicks_effect (i : Instr) (s : State) :
    owedTicks s ≤ owedTicks (effect i s) + if i = .tick then 1 else 0 := by
  have hle := owedTicks_le s
  unfold owedTicks at hle ⊢
  rw [effect_rxState, effect_bitCnt]
  cases i with
  | init | clr | edge => simpa using hle
  | line | adv | rdst | rdbyte => simp
  | tick =>
    cases hstate : s.rxState with
    | idle | byteReady => simp
    | receiving =>
      by_cases hlast : s.bitCnt = 7
      · simp [hlast]
      · have hnext := toNat_add_one_of_ne_seven hlast
        simp only [hlast, and_false, if_false, if_true, hnext]
        omega

theorem owedEdges_effect (i : Instr) (s : State) :
    owedEdges s ≤ owedEdges (effect i s) + if i = .edge then 1 else 0 := by
  unfold owedEdges
  rw [effect_rxState]
  cases i with
  | tick =>
    cases hstate : s.rxState with
    | idle | byteReady => simp
    | receiving => simp
  | init | clr | edge => cases s.rxState <;> simp
  | line | adv | rdst | rdbyte => simp

/-- A debt that only the operation `j` pays, one at a time, is paid by as many `j`s. -/
theorem debt_le_count {owed : State → Nat} {j : Instr}
    (hstep : ∀ i s, owed s ≤ owed (effect i s) + if i = j then 1 else 0) {ops : List Instr} {s t : State}
    (hrun : performAll ops s = .next t) : owed s ≤ owed t + ops.count j := by
  induction ops generalizing s with
  | nil =>
    obtain rfl : s = t := by simpa using hrun
    exact Nat.le_add_right _ _
  | cons i ops ih =>
    obtain ⟨u, hperform, hrest⟩ := andThen_eq_next.1 hrun
    obtain ⟨-, -, rfl⟩ := perform_eq_next_effect hperform
    have hpaid := hstep i s
    have hlater := ih hrest
    rw [List.count_cons]
    simp only [beq_iff_eq]
    omega

/-- Settles O31: `Idle` owes an `EDGE` and eight `TICK`s, `ByteReady` nothing. -/
theorem byteReadyNeedsAWholeFrame : Obligations.ByteReadyNeedsAWholeFrame := by
  unfold Obligations.ByteReadyNeedsAWholeFrame
  intro s t ops hidle hrun hready
  have hedges := debt_le_count owedEdges_effect hrun
  have hticks := debt_le_count owedTicks_effect hrun
  simp only [owedEdges, owedTicks, hidle, hready, Nat.zero_add] at hedges hticks
  exact ⟨hedges, hticks⟩

end Sys2Proof.Proofs.Sampling
end

section
/-! PROOFS. When samples are taken (R161): the timer's count dates every sample of a frame, from the start transition
to the completion, within the delays the delivery rule allows (R206). -/

namespace Sys2Proof.Proofs.SampleTimes

open Sys2Proof Sys2Proof.Machine Sys2Proof.Proofs.Operations Sys2Proof.Proofs.Invariants
open Sys2Proof.Proofs.EachOperation Sys2Proof.Proofs.Sampling

/-- A start transition was latched at the time `start` and its `EDGE` is still to come. -/
structure AwaitsEdge (p : Params) (start : Nat) (s : State) : Prop where
  inv : RunInvariant s
  params : s.params = p
  due : deliverable .edge s = true
  clock : s.time = start + s.waited

/-- A frame is being received whose start transition was latched at the time `start`: with an `EDGE` that was `e` ticks
late, match `bit_cnt` comes `FIRST_CMP + bit_cnt * BIT_TICKS` ticks after that `EDGE`, and the counter says how far off
or how long past it is. -/
structure InFrame (p : Params) (start : Nat) (s : State) : Prop where
  inv : RunInvariant s
  params : s.params = p
  receiving : s.rxState = .receiving
  clock : ∃ e ≤ p.latMax, s.time + (if s.tmrFlag then 0 else s.tmrCmp) =
    start + e + p.firstCmp + s.bitCnt.toNat * p.bitTicks + s.tmrCnt

section
variable {p : Params} {start : Nat} {i : Instr} {s t : State}

/-! ### Before `EDGE` -/

theorem AwaitsEdge.edgeEn_edgeFlag (h : AwaitsEdge p start s) : s.edgeEn = true ∧ s.edgeFlag = true := by
  simpa using h.due

theorem AwaitsEdge.tmrEn (h : AwaitsEdge p start s) : s.tmrEn = false :=
  tmrEn_of_edgeEn h.inv h.edgeEn_edgeFlag.1

theorem awaitsEdge_perform (h : AwaitsEdge p start s) (hperform : perform i s = .next t)
    (hi : i ≠ .init ∧ i ≠ .clr) (hedge : i ≠ .edge) : AwaitsEdge p start t := by
  have inv := runInvariant_perform h.inv hperform
  obtain ⟨-, henabled, rfl⟩ := perform_eq_next_effect hperform
  have hparams := (effect_params i s).trans h.params
  obtain ⟨hen, hflag⟩ := h.edgeEn_edgeFlag
  cases i with
  | line v => exact ⟨inv, hparams, by simp [effect, hen, hflag], h.clock⟩
  | adv =>
    have hadv : effect .adv s = passTick s := clockTimer_of_disabled h.tmrEn
    refine ⟨inv, hparams, by rw [hadv]; exact h.due, ?_⟩
    rw [hadv, passTick_time, passTick_waited, if_pos (by simp [hen, hflag]), h.clock, Nat.add_assoc]
  | tick => simp [enabled, h.tmrEn] at henabled
  | rdst | rdbyte => exact ⟨inv, hparams, h.due, h.clock⟩
  | init => exact absurd rfl hi.1
  | clr => exact absurd rfl hi.2
  | edge => exact absurd rfl hedge

/-- `EDGE` starts the timer: its own delay is the time the handler has waited. -/
theorem inFrame_of_edge (h : AwaitsEdge p start s) (hperform : perform .edge s = .next t) : InFrame p start t := by
  have inv := runInvariant_perform h.inv hperform
  obtain ⟨-, -, rfl⟩ := perform_eq_next_effect hperform
  have hcmp : (effect .edge s).tmrCmp = p.firstCmp := h.params ▸ timerWord_firstCmp h.inv.instantiated
  refine ⟨inv, (effect_params _ s).trans h.params, rfl, s.waited, h.params ▸ h.inv.inTime, ?_⟩
  have hflag : (effect .edge s).tmrFlag = false := rfl
  have hcount : (effect .edge s).bitCnt.toNat = 0 := rfl
  have htime : (effect .edge s).time = start + s.waited := h.clock
  have hcnt : (effect .edge s).tmrCnt = 0 := rfl
  simp [hflag, hcount, htime, hcnt, hcmp]

/-! ### From `EDGE` to the completion -/

theorem InFrame.tmrEn_edgeEn (h : InFrame p start s) : s.tmrEn = true ∧ s.edgeEn = false :=
  h.inv.receiving h.receiving

theorem inFrame_adv (h : InFrame p start s) (hperform : perform .adv s = .next t) : InFrame p start t := by
  have inv := runInvariant_perform h.inv hperform
  obtain ⟨hadmitted, -, rfl⟩ := perform_eq_next_effect hperform
  have hon := h.tmrEn_edgeEn.1
  obtain ⟨e, he, hclock⟩ := h.clock
  refine ⟨inv, (effect_params _ s).trans h.params, (effect_rxState .adv s).trans h.receiving, e, he, ?_⟩
  obtain hlt | heq := (Nat.succ_le_of_lt (h.inv.counting hon)).lt_or_eq
  case inl =>
    rw [effect_adv_of_counting hon hlt h.inv.widths.2]
    change s.time + 1 + _ = _ + (s.tmrCnt + 1)
    rw [Nat.add_right_comm, ← Nat.add_assoc]
    exact congrArg (· + 1) hclock
  case inr =>
    have hflag : s.tmrFlag = false := Bool.eq_false_iff.2 fun hflag =>
      (not_match_of_tmrFlag h.inv hadmitted hflag).ne heq
    rw [effect_adv_of_match hon heq h.inv.widths.2]
    simp only [hflag, Bool.false_eq_true, if_false, ← heq] at hclock
    change s.time + 1 + 0 = _ + 0
    simp only [passTick_bitCnt]
    omega

/-- A sample that leaves the receiver in the frame dates the next one. -/
theorem inFrame_tick (h : InFrame p start s) (hearly : s.bitCnt ≠ 7) (hperform : perform .tick s = .next t) :
    InFrame p start t := by
  have inv := runInvariant_perform h.inv hperform
  obtain ⟨-, henabled, rfl⟩ := perform_eq_next_effect hperform
  have hflag : s.tmrFlag = true := (Bool.and_eq_true _ _ ▸ henabled : s.tmrEn = true ∧ s.tmrFlag = true).2
  obtain ⟨hrec, hnext, -⟩ := effect_tick_early h.receiving hearly
  obtain ⟨e, he, hclock⟩ := h.clock
  refine ⟨inv, (effect_params _ s).trans h.params, hrec, e, he, ?_⟩
  rw [hnext, effect_tick_of_not_last h.inv.instantiated h.receiving hearly, h.params, Nat.add_mul, Nat.one_mul]
  simp only [hflag, if_true, Bool.false_eq_true, if_false] at hclock ⊢
  omega

/-- While a frame is received every operation of a run keeps its dates, or completes the byte. -/
theorem inFrame_perform (h : InFrame p start s) (hperform : perform i s = .next t) (hi : i ≠ .init ∧ i ≠ .clr) :
    InFrame p start t ∨ (i = .tick ∧ s.bitCnt = 7) := by
  have inv := runInvariant_perform h.inv hperform
  obtain ⟨-, henabled, ht⟩ := perform_eq_next_effect hperform
  have hparams := (effect_params i s).trans h.params
  have hrec := h.receiving
  cases i with
  | adv => exact .inl (inFrame_adv h hperform)
  | tick =>
    by_cases hlast : s.bitCnt = 7
    · exact .inr ⟨rfl, hlast⟩
    · exact .inl (inFrame_tick h hlast hperform)
  | line | rdst | rdbyte =>
    subst ht
    exact .inl ⟨inv, hparams, hrec, h.clock⟩
  | edge => simp [enabled, h.tmrEn_edgeEn.2] at henabled
  | init => exact absurd rfl hi.1
  | clr => exact absurd rfl hi.2

/-- When the `TICK` of sample `bit_cnt` can be performed, it is late by the delay of `EDGE` and by its own. -/
theorem InFrame.time_of_tmrFlag (h : InFrame p start s) (hflag : s.tmrFlag = true) :
    ∃ d, d ≤ 2 * p.latMax ∧ s.time = start + d + p.firstCmp + s.bitCnt.toNat * p.bitTicks := by
  obtain ⟨e, he, hclock⟩ := h.clock
  have hcnt : s.tmrCnt ≤ p.latMax := h.inv.sinceMatch hflag ▸ h.params ▸ h.inv.inTime
  simp only [hflag, if_true] at hclock
  exact ⟨e + s.tmrCnt, by omega, by omega⟩

/-- No sample is ever further behind than that. -/
theorem InFrame.time_le (h : InFrame p start s) :
    s.time ≤ start + 2 * p.latMax + p.firstCmp + s.bitCnt.toNat * p.bitTicks := by
  cases hflag : s.tmrFlag with
  | true =>
    obtain ⟨d, hd, htime⟩ := h.time_of_tmrFlag hflag
    omega
  | false =>
    obtain ⟨e, he, hclock⟩ := h.clock
    have hcnt := h.inv.counting h.tmrEn_edgeEn.1
    simp only [hflag, Bool.false_eq_true, if_false] at hclock
    omega

/-! ### After the completion -/

/-- Between the completion and the next `EDGE` the receiver stays in `ByteReady`. -/
theorem byteReady_perform (hready : s.rxState = .byteReady) (hperform : perform i s = .next t)
    (hi : i ≠ .init ∧ i ≠ .clr) (hedge : i ≠ .edge) : t.rxState = .byteReady := by
  obtain ⟨-, -, rfl⟩ := perform_eq_next_effect hperform
  rw [effect_rxState]
  cases i with
  | init => exact absurd rfl hi.1
  | clr => exact absurd rfl hi.2
  | edge => exact absurd rfl hedge
  | tick => simp [hready]
  | line | adv | rdst | rdbyte => exact hready

end

/-! ### The samples of a run -/

/-- From `EDGE` on: the frame is being received, or its byte is ready. -/
def PastEdge (p : Params) (start : Nat) (s : State) : Prop :=
  InFrame p start s ∨ (RunInvariant s ∧ s.rxState = .byteReady)

theorem pastEdge_perform {p : Params} {start : Nat} {i : Instr} {s t : State} (h : PastEdge p start s)
    (hperform : perform i s = .next t) (hi : i ≠ .init ∧ i ≠ .clr) (hedge : i ≠ .edge) : PastEdge p start t := by
  obtain hframe | ⟨inv, hready⟩ := h
  · obtain hframe' | ⟨rfl, hlast⟩ := inFrame_perform hframe hperform hi
    · exact .inl hframe'
    · have inv := runInvariant_perform hframe.inv hperform
      obtain ⟨-, -, rfl⟩ := perform_eq_next_effect hperform
      exact .inr ⟨inv, (effect_tick_last hframe.receiving hlast).1⟩
  · exact .inr ⟨runInvariant_perform inv hperform, byteReady_perform hready hperform hi hedge⟩

/-- A run with one `EDGE`, from where that `EDGE` is due, is past it. -/
theorem pastEdge_of_one_edge {p : Params} {start : Nat} {ops : List Instr} {s t : State} (h : AwaitsEdge p start s)
    (hops : ∀ i ∈ ops, i ≠ .init ∧ i ≠ .clr) (hcount : ops.count .edge = 1) (hrun : performAll ops s = .next t) :
    PastEdge p start t := by
  induction ops generalizing s with
  | nil => nomatch hcount
  | cons i ops ih =>
    obtain ⟨u, hperform, hrest⟩ := andThen_eq_next.1 hrun
    have hi := hops i List.mem_cons_self
    have hops' : ∀ j ∈ ops, j ≠ .init ∧ j ≠ .clr := fun j hj => hops j (List.mem_cons_of_mem i hj)
    by_cases hedge : i = .edge
    · subst hedge
      have hnone : .edge ∉ ops := List.count_eq_zero.1 (by simpa using hcount)
      exact performAll_keeps (P := fun j => (j ≠ .init ∧ j ≠ .clr) ∧ j ≠ .edge)
        (fun _ _ _ hj hv hp => pastEdge_perform hv hp hj.1 hj.2) ops u t
        (fun j hj => ⟨hops' j hj, fun he => hnone (he ▸ hj)⟩) (.inl (inFrame_of_edge h hperform)) hrest
    · rw [List.count_cons_of_ne hedge] at hcount
      exact ih (awaitsEdge_perform h hperform hi hedge) hops' hcount hrest

/-- Settles O24: the run is past its one `EDGE`, `TICK` has its guard only while the frame is received, and there the
count dates it. -/
theorem samplesFallWithinTheLatency : Obligations.SamplesFallWithinTheLatency := by
  unfold Obligations.SamplesFallWithinTheLatency
  intro s t u ops inv hdue hwaited hops hcount hrun htick
  have hawaits : AwaitsEdge s.params s.time s := ⟨inv, rfl, hdue, by rw [hwaited, Nat.add_zero]⟩
  obtain ⟨-, henabled, -⟩ := perform_eq_next_effect htick
  obtain ⟨hon, hflag⟩ : t.tmrEn = true ∧ t.tmrFlag = true := by simpa [enabled] using henabled
  obtain hframe | ⟨inv', hready⟩ := pastEdge_of_one_edge hawaits hops hcount hrun
  · obtain ⟨d, hd, htime⟩ := hframe.time_of_tmrFlag hflag
    unfold sampleInstant
    omega
  · simp [(inv'.byteReady hready).2] at hon

/-! ### The latency budget (R237) -/

/-- Settles O51: the sample is at least half a bit past the start of its cell, and the delays leave it before the
cell's end. -/
theorem latencyBudgetKeepsSamplesInTheirCells : Obligations.LatencyBudgetKeepsSamplesInTheirCells := by
  unfold Obligations.LatencyBudgetKeepsSamplesInTheirCells
  intro p hp hbudget d k hd _
  have hwf := wellFormed_iff.1 hp
  unfold readsItsCell Params.firstCmp
  rw [Nat.add_mul, Nat.add_mul]
  omega

end Sys2Proof.Proofs.SampleTimes
end

section
/-! PROOFS. A frame within the rate tolerance (R162, R163): whatever delays the handlers have and whatever the consumer
reads, every sample falls into its own cell, so the eight samples are the byte. -/

namespace Sys2Proof.Proofs.FrameTolerance

open Sys2Proof Sys2Proof.Machine Sys2Proof.Proofs.Operations Sys2Proof.Proofs.Invariants
open Sys2Proof.Proofs.NonInterference Sys2Proof.Proofs.EachOperation Sys2Proof.Proofs.Sampling
open Sys2Proof.Proofs.SampleTimes

/-! ### The bits taken so far -/

/-- The top `n` bits of the register are the first `n` data bits of `D`, the first lowest (R158). -/
def HoldsBits (D : Byte) (n : Nat) (r : Byte) : Prop := ∀ k, k < n → r.getLsbD (8 - n + k) = D.getLsbD k

theorem holdsBits_zero (D r : Byte) : HoldsBits D 0 r := fun _ hk => absurd hk (Nat.not_lt_zero _)

theorem holdsBits_shiftIn {D r : Byte} {n : Nat} (h : HoldsBits D n r) (hn : n < 8) :
    HoldsBits D (n + 1) (shiftIn (D.getLsbD n) r) := by
  intro k hk
  obtain hlt | rfl := Nat.lt_succ_iff_lt_or_eq.1 hk
  · rw [shiftIn_getLsbD_of_lt _ _ (by omega), ← h k hlt]
    congr 1
    omega
  · rw [show 8 - (k + 1) + k = 7 by omega, shiftIn_getLsbD_seven]

theorem eq_of_holdsBits_eight {D r : Byte} (h : HoldsBits D 8 r) : r = D := by
  apply BitVec.eq_of_getLsbD_eq
  intro k hk
  simpa using h k hk

/-- Cell `k + 1` is sampled as data bit `k`: the inversion of the sample undoes that of the line (R92). -/
theorem sampleBit_cellLevel (p : Params) (D : Byte) {k : Nat} (hk : k < 8) :
    p.sampleBit (cellLevel p D (k + 1)) = D.getLsbD k := by
  simp [cellLevel, hk, Params.sampleBit, Params.dataLevel]

/-! ### Where the environment is in its frame -/

/-- What the environment still has to play when `m` ticks of cell `j` are left. -/
def cellRest (p : Params) (D : Byte) (P j m : Nat) : List Instr :=
  List.replicate m .adv ++ cellOps p D P (j + 1) (8 - j)

/-- The environment has started a frame at the time `start` and has `rest` left of it; the line is at the level of the
cell it is in. -/
def Playing (p : Params) (D : Byte) (P start : Nat) (rest : List Instr) (s : State) : Prop :=
  (∃ j m, j ≤ 8 ∧ m ≤ P ∧ rest = cellRest p D P j m ∧ s.line = cellLevel p D j ∧ s.time + m = start + (j + 1) * P) ∨
  (rest = [] ∧ s.time = start + 9 * P)

theorem frameAtRate_eq_cons (p : Params) (D : Byte) (P : Nat) :
    frameAtRate p D P = .line p.startLevel :: cellRest p D P 0 P := rfl

/-- A cell ends with the level of the next one, or with the frame. -/
theorem cellRest_zero (p : Params) (D : Byte) (P : Nat) {j : Nat} (hj : j ≤ 8) :
    cellRest p D P j 0 = .line (cellLevel p D (j + 1)) :: if j < 8 then cellRest p D P (j + 1) P else [] := by
  obtain hlt | rfl := hj.lt_or_eq
  · rw [if_pos hlt, cellRest, cellRest, show 8 - j = 8 - (j + 1) + 1 by omega]
    rfl
  · rfl

theorem cellRest_succ (p : Params) (D : Byte) (P j m : Nat) :
    cellRest p D P j (m + 1) = .adv :: cellRest p D P j m := rfl

theorem cellRest_ne_nil (p : Params) (D : Byte) (P j m : Nat) : cellRest p D P j m ≠ [] := by
  cases h : 8 - j <;> simp [cellRest, cellOps, h]

/-- The only change of level left in the last cell is the return to `IDLE_LEVEL`. -/
theorem line_mem_cellRest_eight {p : Params} {D : Byte} {P m : Nat} {l : Level}
    (h : .line l ∈ cellRest p D P 8 m) : l = p.idleLevel := by
  simpa [cellRest, cellOps, cellLevel, List.mem_replicate] using h

section
variable {p : Params} {D : Byte} {P start : Nat} {rest rest' : List Instr} {i : Instr} {s t : State}

/-- An operation of the environment is the next one of its frame; any other leaves the line and the time. -/
theorem playing_effect (h : Playing p D P start rest s) (hinit : i ≠ .init)
    (hrest : rest = if isEnvironment i then i :: rest' else rest') : Playing p D P start rest' (effect i s) := by
  cases henv : isEnvironment i with
  | false =>
    obtain rfl : rest = rest' := by simpa [henv] using hrest
    have hline : (effect i s).line = s.line := by
      rw [effect_line]
      cases i with
      | line | adv => nomatch henv
      | init | edge | tick | rdst | rdbyte | clr => rfl
    have htime : (effect i s).time = s.time := by
      rw [effect_time]
      cases i with
      | line | adv => nomatch henv
      | init => exact absurd rfl hinit
      | edge | tick | rdst | rdbyte | clr => rfl
    rwa [Playing, hline, htime]
  | true =>
    obtain rfl : rest = i :: rest' := by simpa [henv] using hrest
    obtain ⟨j, m, hj, hm, hcell, hline, hclock⟩ | ⟨hnil, -⟩ := h
    case inr => nomatch hnil
    case inl =>
      cases m with
      | zero =>
        rw [cellRest_zero p D P hj, List.cons.injEq] at hcell
        obtain ⟨rfl, rfl⟩ := hcell
        obtain hlt | rfl := hj.lt_or_eq
        · refine .inl ⟨j + 1, P, hlt, le_rfl, if_pos hlt, rfl, ?_⟩
          change s.time + P = _
          rw [Nat.add_mul (j + 1), Nat.one_mul]
          omega
        · exact .inr ⟨rfl, hclock⟩
      | succ m =>
        rw [cellRest_succ, List.cons.injEq] at hcell
        obtain ⟨rfl, rfl⟩ := hcell
        refine .inl ⟨j, m, hj, by omega, rfl, (effect_line .adv s).trans hline, ?_⟩
        have htime : (effect .adv s).time = s.time + 1 := effect_time .adv s
        omega

/-- Where sample `k` can be taken, the environment is in cell `k + 1` (R163). -/
theorem in_cell_of_tmrFlag (htol : ∀ d k, d ≤ 2 * p.latMax → k < 8 → readsItsCell p P d k)
    (hframe : InFrame p start s) (hplaying : Playing p D P start rest s) (hflag : s.tmrFlag = true) :
    s.line = cellLevel p D (s.bitCnt.toNat + 1) ∧ ∃ m, rest = cellRest p D P (s.bitCnt.toNat + 1) m := by
  obtain ⟨d, hd, htime⟩ := hframe.time_of_tmrFlag hflag
  have hk : s.bitCnt.toNat < 8 := s.bitCnt.isLt
  obtain ⟨hafter, hbefore⟩ := htol d s.bitCnt.toNat hd hk
  obtain ⟨j, m, hj, hm, hrest, hline, hclock⟩ | ⟨-, hclock⟩ := hplaying
  case inl =>
    have hlow : s.bitCnt.toNat < j := by
      by_contra hle
      have := Nat.mul_le_mul_right P (show j + 1 ≤ s.bitCnt.toNat + 1 by omega)
      omega
    have hhigh : j < s.bitCnt.toNat + 2 := by
      by_contra hle
      have := Nat.mul_le_mul_right P (show s.bitCnt.toNat + 2 ≤ j by omega)
      rw [Nat.add_mul j, Nat.one_mul] at hclock
      omega
    obtain rfl : j = s.bitCnt.toNat + 1 := by omega
    exact ⟨hline, m, hrest⟩
  case inr =>
    have := Nat.mul_le_mul_right P (show s.bitCnt.toNat + 2 ≤ 9 by omega)
    omega

/-! ### The phases of a frame -/

/-- How far the receiver is with the frame of which the environment has `rest` still to play. -/
inductive FramePhase (p : Params) (D : Byte) (P start : Nat) (rest : List Instr) (s : State) : Prop
  /-- The frame has not begun. -/
  | ready (ready : ReadyForFrame s) (params : s.params = p) (clock : s.time = start)
      (whole : rest = frameAtRate p D P)
  /-- The start transition is latched, and its `EDGE` is still to come. -/
  | struck (awaits : AwaitsEdge p start s) (playing : Playing p D P start rest s)
  /-- The samples taken so far are data bits of `D`. -/
  | sampling (frame : InFrame p start s) (playing : Playing p D P start rest s)
      (bits : HoldsBits D s.bitCnt.toNat s.shiftReg)
  /-- The byte is complete, and nothing is left in the frame that starts another. -/
  | complete (inv : RunInvariant s) (params : s.params = p) (byteReady : s.rxState = .byteReady)
      (clear : s.edgeFlag = false) (byte : s.rxByte = D) (quiet : ∀ l, .line l ∈ rest → l = p.idleLevel)

theorem framePhase_of_ready (hready : ReadyForFrame s) (hparams : s.params = p) (hclock : s.time = start)
    (hwhole : rest = frameAtRate p D P) (hperform : perform i s = .next t) (hi : i ≠ .init ∧ i ≠ .clr)
    (hrest : rest = if isEnvironment i then i :: rest' else rest') : FramePhase p D P start rest' t := by
  have inv := runInvariant_perform hready.inv hperform
  obtain ⟨-, henabled, rfl⟩ := perform_eq_next_effect hperform
  have hoff := tmrEn_of_edgeEn hready.inv hready.enabled
  rw [hwhole, frameAtRate_eq_cons] at hrest
  cases i with
  | line v =>
    obtain ⟨hv, rfl⟩ := List.cons.inj hrest
    obtain rfl : p.startLevel = v := Instr.line.inj hv
    have hawaits : awaitsHandler s = false := by simp [hready.clear, hoff]
    have hstrike : startTransition s.params s.line p.startLevel = true :=
      startTransition_eq_true_iff.2 ⟨hready.atIdle, by rw [hparams]⟩
    refine .struck ⟨inv, hparams, by simp [effect, hready.enabled, hstrike], ?_⟩
      (.inl ⟨0, P, Nat.zero_le _, le_rfl, rfl, rfl, ?_⟩)
    · exact hclock.trans (by simp [effect, hready.inv.noneOwed hawaits])
    · rw [effect_time, hclock, Nat.zero_add, Nat.one_mul]
  | adv => nomatch (List.cons.inj hrest).1
  | edge => simp [enabled, hready.clear] at henabled
  | tick => simp [enabled, hoff] at henabled
  | rdst | rdbyte =>
    exact .ready ⟨inv, hready.notReceiving, hready.enabled, hready.clear, hready.atIdle⟩ hparams hclock hrest.symm
  | init => exact absurd rfl hi.1
  | clr => exact absurd rfl hi.2

theorem framePhase_of_struck (hawaits : AwaitsEdge p start s) (hplaying : Playing p D P start rest s)
    (hperform : perform i s = .next t) (hi : i ≠ .init ∧ i ≠ .clr)
    (hrest : rest = if isEnvironment i then i :: rest' else rest') : FramePhase p D P start rest' t := by
  obtain ⟨-, -, ht⟩ := perform_eq_next_effect hperform
  have hplaying' : Playing p D P start rest' t := ht ▸ playing_effect hplaying hi.1 hrest
  by_cases hedge : i = .edge
  · subst hedge
    have hzero : t.bitCnt = 0 := ht ▸ effect_bitCnt .edge s
    exact .sampling (inFrame_of_edge hawaits hperform) hplaying' (by rw [hzero]; exact holdsBits_zero _ _)
  · exact .struck (awaitsEdge_perform hawaits hperform hi hedge) hplaying'

/-- A sample of a frame within the tolerance adds the next data bit, and the eighth completes the byte. -/
theorem framePhase_tick (htol : ∀ d k, d ≤ 2 * p.latMax → k < 8 → readsItsCell p P d k)
    (hframe : InFrame p start s) (hplaying : Playing p D P start rest s)
    (hbits : HoldsBits D s.bitCnt.toNat s.shiftReg) (hperform : perform .tick s = .next t) :
    FramePhase p D P start rest t := by
  have inv := runInvariant_perform hframe.inv hperform
  obtain ⟨-, henabled, ht⟩ := perform_eq_next_effect hperform
  have hplaying' : Playing p D P start rest t := ht ▸ playing_effect (i := .tick) hplaying (by simp) rfl
  have hflag : s.tmrFlag = true := by simpa [enabled, hframe.tmrEn_edgeEn.1] using henabled
  obtain ⟨hline, m, hrest⟩ := in_cell_of_tmrFlag htol hframe hplaying hflag
  have hk : s.bitCnt.toNat < 8 := s.bitCnt.isLt
  have hsample : s.params.sampleBit s.line = D.getLsbD s.bitCnt.toNat := by
    rw [hline, hframe.params, sampleBit_cellLevel p D hk]
  have hbits' := holdsBits_shiftIn hbits hk
  rw [← hsample] at hbits'
  by_cases hlast : s.bitCnt = 7
  · obtain ⟨hready, -, hshift, hbyte, -, hclear⟩ := effect_tick_last hframe.receiving hlast
    rw [toNat_eq_seven_iff.2 hlast] at hbits' hrest
    subst ht hrest
    exact .complete inv ((effect_params _ s).trans hframe.params) hready hclear
      (hbyte.trans (hshift.trans (eq_of_holdsBits_eight hbits'))) fun _ => line_mem_cellRest_eight
  · obtain ⟨-, hnext, hshift, -⟩ := effect_tick_early hframe.receiving hlast
    refine .sampling (inFrame_tick hframe hlast hperform) hplaying' ?_
    rwa [ht, hnext, hshift]

theorem framePhase_of_sampling (htol : ∀ d k, d ≤ 2 * p.latMax → k < 8 → readsItsCell p P d k)
    (hframe : InFrame p start s) (hplaying : Playing p D P start rest s)
    (hbits : HoldsBits D s.bitCnt.toNat s.shiftReg) (hperform : perform i s = .next t) (hi : i ≠ .init ∧ i ≠ .clr)
    (hrest : rest = if isEnvironment i then i :: rest' else rest') : FramePhase p D P start rest' t := by
  by_cases htick : i = .tick
  · subst htick
    obtain rfl : rest = rest' := hrest
    exact framePhase_tick htol hframe hplaying hbits hperform
  · obtain hframe' | ⟨htick', -⟩ := inFrame_perform hframe hperform hi
    · obtain ⟨-, henabled, rfl⟩ := perform_eq_next_effect hperform
      refine .sampling hframe' (playing_effect hplaying hi.1 hrest) ?_
      rw [effect_bitCnt, effect_shiftReg]
      cases i with
      | edge => simp [enabled, hframe.tmrEn_edgeEn.2] at henabled
      | tick => exact absurd rfl htick
      | init | line | adv | rdst | rdbyte | clr => exact hbits
    · exact absurd htick' htick

/-- The return to `IDLE_LEVEL` latches nothing, so the byte stays. -/
theorem framePhase_of_complete (inv : RunInvariant s) (hparams : s.params = p) (hready : s.rxState = .byteReady)
    (hclear : s.edgeFlag = false) (hbyte : s.rxByte = D) (hquiet : ∀ l, .line l ∈ rest → l = p.idleLevel)
    (hperform : perform i s = .next t) (hi : i ≠ .init ∧ i ≠ .clr)
    (hrest : rest = if isEnvironment i then i :: rest' else rest') : FramePhase p D P start rest' t := by
  have inv' := runInvariant_perform inv hperform
  obtain ⟨-, henabled, rfl⟩ := perform_eq_next_effect hperform
  have hedge : i ≠ .edge := by
    rintro rfl
    simp [enabled, hclear] at henabled
  have htick : i ≠ .tick := by
    rintro rfl
    simp [enabled, (inv.byteReady hready).2] at henabled
  have hclear' : (effect i s).edgeFlag = false := by
    rw [effect_edgeFlag]
    cases i with
    | line v =>
      obtain rfl : v = p.idleLevel := hquiet v (by simp [hrest, isEnvironment])
      simp [hclear, hparams, Params.idleLevel]
    | edge => exact absurd rfl hedge
    | tick => exact absurd rfl htick
    | init => rfl
    | adv | rdst | rdbyte | clr => exact hclear
  have hbyte' : (effect i s).rxByte = D := by
    rw [effect_rxByte]
    cases i with
    | tick => exact absurd rfl htick
    | init | line | adv | edge | rdst | rdbyte | clr => exact hbyte
  refine .complete inv' ((effect_params i s).trans hparams) (byteReady_perform hready hperform hi hedge) hclear' hbyte'
    fun l hl => hquiet l ?_
  rw [hrest]
  split
  · exact List.mem_cons_of_mem i hl
  · exact hl

theorem framePhase_perform (htol : ∀ d k, d ≤ 2 * p.latMax → k < 8 → readsItsCell p P d k)
    (h : FramePhase p D P start rest s) (hperform : perform i s = .next t) (hi : i ≠ .init ∧ i ≠ .clr)
    (hrest : rest = if isEnvironment i then i :: rest' else rest') : FramePhase p D P start rest' t := by
  cases h with
  | ready hready hparams hclock hwhole => exact framePhase_of_ready hready hparams hclock hwhole hperform hi hrest
  | struck hawaits hplaying => exact framePhase_of_struck hawaits hplaying hperform hi hrest
  | sampling hframe hplaying hbits => exact framePhase_of_sampling htol hframe hplaying hbits hperform hi hrest
  | complete inv hparams hready hclear hbyte hquiet =>
    exact framePhase_of_complete inv hparams hready hclear hbyte hquiet hperform hi hrest

/-- The environment cannot end its frame before the byte is complete: the last tick it plays would leave a handler
overdue. -/
theorem complete_of_framePhase_nil (htol : ∀ d k, d ≤ 2 * p.latMax → k < 8 → readsItsCell p P d k)
    (h : FramePhase p D P start [] s) : s.rxState = .byteReady ∧ s.rxByte = D := by
  have hover : ∀ {s : State}, Playing p D P start [] s → s.time = start + 9 * P := by
    rintro s (⟨j, m, -, -, hnil, -⟩ | ⟨-, hclock⟩)
    · exact absurd hnil.symm (cellRest_ne_nil p D P j m)
    · exact hclock
  cases h with
  | ready _ _ _ hwhole => nomatch hwhole
  | struck hawaits hplaying =>
    have hclock := hover hplaying
    have hwaited := hawaits.inv.inTime
    have hwf := wellFormed_iff.1 hawaits.inv.instantiated
    have hfirst := (htol 0 0 (Nat.zero_le _) (by omega)).2
    have hstart := hawaits.clock
    rw [hawaits.params] at hwaited hwf
    unfold Params.firstCmp at hfirst
    omega
  | sampling hframe hplaying _ =>
    have hclock := hover hplaying
    have hk : s.bitCnt.toNat < 8 := s.bitCnt.isLt
    have hlast := (htol (2 * p.latMax) s.bitCnt.toNat le_rfl hk).2
    have hle := Nat.mul_le_mul_right P (show s.bitCnt.toNat + 2 ≤ 9 by omega)
    have htime := hframe.time_le
    omega
  | complete _ _ hready _ hbyte _ => exact ⟨hready, hbyte⟩

end

theorem framePhase_performAll {p : Params} {D : Byte} {P start : Nat} {ops : List Instr} {s t : State}
    (htol : ∀ d k, d ≤ 2 * p.latMax → k < 8 → readsItsCell p P d k) (hops : ∀ i ∈ ops, i ≠ .init ∧ i ≠ .clr)
    (h : FramePhase p D P start (ops.filter isEnvironment) s) (hrun : performAll ops s = .next t) :
    FramePhase p D P start [] t := by
  induction ops generalizing s with
  | nil =>
    obtain rfl : s = t := by simpa using hrun
    exact h
  | cons i ops ih =>
    obtain ⟨u, hperform, hrest⟩ := andThen_eq_next.1 hrun
    exact ih (fun j hj => hops j (List.mem_cons_of_mem i hj))
      (framePhase_perform htol h hperform (hops i List.mem_cons_self) List.filter_cons) hrest

/-- Settles O50, by induction on the run: it goes through the phases of the frame, and its end is the last of them. -/
theorem frameWithinToleranceIsDelivered : Obligations.FrameWithinToleranceIsDelivered := by
  unfold Obligations.FrameWithinToleranceIsDelivered
  intro s t D P ops hready htol hops hframe hrun
  exact complete_of_framePhase_nil htol
    (framePhase_performAll htol hops (.ready hready rfl rfl hframe) hrun)

end Sys2Proof.Proofs.FrameTolerance
end

section
/-! PROOFS. `FRAME D` with every handler delivered at once (R105, R162): what each cell of it makes of the state. -/

namespace Sys2Proof.Proofs.PromptFrame

open Sys2Proof Sys2Proof.Machine Sys2Proof.Proofs.Operations Sys2Proof.Proofs.Invariants
open Sys2Proof.Proofs.NonInterference Sys2Proof.Proofs.EachOperation Sys2Proof.Proofs.Sampling
open Sys2Proof.Proofs.FrameTolerance

/-- In a state of the invariants an enabled operation has its effect, unless it is a tick while a handler waits. -/
theorem perform_eq_effect {u : State} (inv : RunInvariant u) {i : Instr} (henabled : enabled i u = true)
    (hadv : i = .adv → awaitsHandler u = false) : perform i u = .next (effect i u) := by
  have hadmitted : objection i u = none := objection_eq_none.2
    ⟨inv.instantiated, .inl inv.started, fun h => by rw [overdue, hadv h, Bool.false_and],
      fun _ => not_both_deliverable inv⟩
  rw [perform_of_no_objection hadmitted, exec_of_enabled henabled]

/-! ### Ticks with no handler waiting -/

/-- Nothing is owed, so the tick that passes moves the time alone. -/
theorem passTick_of_quiet {u : State} (inv : RunInvariant u) (hquiet : awaitsHandler u = false) :
    passTick u = { u with time := u.time + 1 } := by
  have hwaited := inv.noneOwed hquiet
  simp only [passTick, hquiet, hwaited, Bool.false_eq_true, if_false]

section
variable {u : State} (inv : RunInvariant u)
include inv

theorem awaitsHandler_of_counting (hon : u.tmrEn = true) (hflag : u.tmrFlag = false) : awaitsHandler u = false := by
  simp [hflag, edgeEn_of_tmrEn inv hon]

theorem perform_adv_of_counting (hon : u.tmrEn = true) (hflag : u.tmrFlag = false) (hcnt : u.tmrCnt + 1 < u.tmrCmp) :
    perform .adv u = .next { u with time := u.time + 1, tmrCnt := u.tmrCnt + 1 } := by
  have hquiet := awaitsHandler_of_counting inv hon hflag
  rw [perform_eq_effect inv rfl fun _ => hquiet, effect_adv_of_counting hon hcnt inv.widths.2,
    passTick_of_quiet inv hquiet]

theorem perform_adv_of_match (hon : u.tmrEn = true) (hflag : u.tmrFlag = false) (hcnt : u.tmrCnt + 1 = u.tmrCmp) :
    perform .adv u = .next { u with time := u.time + 1, tmrCnt := 0, tmrFlag := true } := by
  have hquiet := awaitsHandler_of_counting inv hon hflag
  rw [perform_eq_effect inv rfl fun _ => hquiet, effect_adv_of_match hon hcnt inv.widths.2,
    passTick_of_quiet inv hquiet]

theorem perform_adv_of_stopped (hoff : u.tmrEn = false) (hclear : u.edgeFlag = false) :
    perform .adv u = .next { u with time := u.time + 1 } := by
  have hquiet : awaitsHandler u = false := by simp [hoff, hclear]
  rw [perform_eq_effect inv rfl fun _ => hquiet, effect, clockTimer_of_disabled (s := passTick u) hoff,
    passTick_of_quiet inv hquiet]

end

/-- Ticks that leave the counter below the compare value. -/
theorem performAll_adv_of_counting (n : Nat) {u : State} (inv : RunInvariant u) (hon : u.tmrEn = true)
    (hflag : u.tmrFlag = false) (hcnt : u.tmrCnt + n < u.tmrCmp) :
    performAll (List.replicate n .adv) u = .next { u with time := u.time + n, tmrCnt := u.tmrCnt + n } := by
  induction n generalizing u with
  | zero => rfl
  | succ n ih =>
    have hadv := perform_adv_of_counting inv hon hflag (by omega)
    rw [List.replicate_succ, performAll_cons, hadv, andThen_next,
      ih (runInvariant_perform inv hadv) hon hflag (by dsimp only; omega)]
    simp only [Nat.add_assoc, Nat.add_comm 1 n]

/-- Ticks of which the last brings the counter to the compare value. -/
theorem performAll_adv_of_match (n : Nat) {u : State} (inv : RunInvariant u) (hon : u.tmrEn = true)
    (hflag : u.tmrFlag = false) (hcnt : u.tmrCnt + n = u.tmrCmp) :
    performAll (List.replicate n .adv) u = .next { u with time := u.time + n, tmrCnt := 0, tmrFlag := true } := by
  have hlt := inv.counting hon
  obtain ⟨n, rfl⟩ : ∃ m, n = m + 1 := Nat.exists_eq_succ_of_ne_zero (by omega)
  have hcount := performAll_adv_of_counting n inv hon hflag (by omega)
  have hmatch := perform_adv_of_match (runInvariant_performAll inv hcount) hon hflag (by dsimp only; omega)
  rw [List.replicate_succ', performAll_append, hcount, andThen_next, performAll_cons, hmatch]
  rfl

/-- Ticks while both interrupts are quiet. -/
theorem performAll_adv_of_stopped (n : Nat) {u : State} (inv : RunInvariant u) (hoff : u.tmrEn = false)
    (hclear : u.edgeFlag = false) :
    performAll (List.replicate n .adv) u = .next { u with time := u.time + n } := by
  induction n generalizing u with
  | zero => rfl
  | succ n ih =>
    have hadv := perform_adv_of_stopped inv hoff hclear
    rw [List.replicate_succ, performAll_cons, hadv, andThen_next, ih (runInvariant_perform inv hadv) hoff hclear]
    simp only [Nat.add_assoc, Nat.add_comm 1 n]

/-! ### One cell -/

/-- A cell of the line at `v`, its sample taken in its middle. -/
def promptCell (p : Params) (v : Level) : List Instr :=
  .line v :: (List.replicate p.halfBitTicks .adv ++ .tick :: List.replicate (p.bitTicks - p.halfBitTicks) .adv)

theorem promptCells_succ (p : Params) (D : Byte) (j n : Nat) :
    promptCells p D j (n + 1) = promptCell p (cellLevel p D j) ++ promptCells p D (j + 1) n := by
  simp [promptCells, promptCell]

/-- The state half a bit after the line went to `v`, with the timer's match pending. -/
def midCell (v : Level) (u : State) : State :=
  { driveLine v u with time := u.time + u.params.halfBitTicks, tmrCnt := 0, tmrFlag := true }

theorem halfBitTicks_lt_bitTicks {u : State} (inv : RunInvariant u) :
    u.params.halfBitTicks < u.params.bitTicks ∧ 0 < u.params.halfBitTicks := by
  have hwf := wellFormed_iff.1 inv.instantiated
  omega

section
variable {u : State} (inv : RunInvariant u) (hstate : u.rxState = .receiving) (hflag : u.tmrFlag = false)
  (hcnt : u.tmrCnt + u.params.halfBitTicks = u.tmrCmp)
include inv hstate hflag hcnt

/-- Half a bit into the cell the timer matches, and its `TICK` comes at once. -/
theorem performAll_promptCell (v : Level) :
    performAll (promptCell u.params v) u =
      performAll (List.replicate (u.params.bitTicks - u.params.halfBitTicks) .adv) (effect .tick (midCell v u)) ∧
    RunInvariant (effect .tick (midCell v u)) := by
  have hon := (inv.receiving hstate).1
  have hline : perform (.line v) u = .next (driveLine v u) := perform_eq_effect inv rfl (by simp)
  have hinvLine := runInvariant_perform inv hline
  have hmatch : performAll (List.replicate u.params.halfBitTicks .adv) (driveLine v u) = .next (midCell v u) :=
    performAll_adv_of_match u.params.halfBitTicks hinvLine hon hflag hcnt
  have hinvMatch := runInvariant_performAll hinvLine hmatch
  have htick := perform_eq_effect (i := .tick) hinvMatch (by simp [enabled, midCell, hon]) (by simp)
  refine ⟨?_, runInvariant_perform hinvMatch htick⟩
  rw [promptCell, performAll_cons, hline, andThen_next, performAll_append, hmatch, andThen_next, performAll_cons,
    htick, andThen_next]

/-- A cell before the last: one more bit, and the timer half a bit short of its next match. -/
theorem performAll_promptCell_early (v : Level) (hearly : u.bitCnt ≠ 7) :
    performAll (promptCell u.params v) u = .next { u with
      line := v, edgeFlag := (driveLine v u).edgeFlag, bitCnt := u.bitCnt + 1
      shiftReg := shiftIn (u.params.sampleBit v) u.shiftReg
      tmrCnt := u.params.bitTicks - u.params.halfBitTicks, tmrCmp := u.params.bitTicks
      time := u.time + u.params.bitTicks } := by
  have hhalf := halfBitTicks_lt_bitTicks inv
  have hon := (inv.receiving hstate).1
  have hwaited := inv.noneOwed (awaitsHandler_of_counting inv hon hflag)
  obtain ⟨hrun, hinv⟩ := performAll_promptCell inv hstate hflag hcnt v
  rw [effect_tick_of_not_last (s := midCell v u) inv.instantiated hstate hearly] at hrun hinv
  rw [hrun, performAll_adv_of_counting _ hinv hon rfl (by simp only [midCell, driveLine_params]; omega)]
  simp only [midCell, driveLine, hflag, hwaited, Nat.zero_add, Host.Outcome.next.injEq, State.mk.injEq, true_and,
    and_true]
  omega

/-- The last cell: the byte is complete, and the timer is off. -/
theorem performAll_promptCell_last (v : Level) (hlast : u.bitCnt = 7) :
    performAll (promptCell u.params v) u = .next { u with
      line := v, edgeFlag := false, edgeEn := true, rxState := .byteReady, bitCnt := 0
      shiftReg := shiftIn (u.params.sampleBit v) u.shiftReg, rxByte := shiftIn (u.params.sampleBit v) u.shiftReg
      tmrEn := false, tmrCnt := 0, tmrCmp := u.params.bitTicks, time := u.time + u.params.bitTicks } := by
  have hhalf := halfBitTicks_lt_bitTicks inv
  have hon := (inv.receiving hstate).1
  have hwaited := inv.noneOwed (awaitsHandler_of_counting inv hon hflag)
  obtain ⟨hrun, hinv⟩ := performAll_promptCell inv hstate hflag hcnt v
  rw [effect_tick_of_last (s := midCell v u) inv.instantiated hstate hlast] at hrun hinv
  rw [hrun, performAll_adv_of_stopped _ hinv rfl rfl]
  simp only [midCell, driveLine, hflag, hwaited, Host.Outcome.next.injEq, State.mk.injEq, true_and, and_true]
  omega

end

/-! ### The eight cells -/

/-- From the end of cell `j` to the end of the frame, `n` cells later. -/
theorem performAll_promptCells (D : Byte) (n j : Nat) {u : State} (hj : j + (n + 1) = 8) (inv : RunInvariant u)
    (hstate : u.rxState = .receiving) (hflag : u.tmrFlag = false)
    (hcnt : u.tmrCnt + u.params.halfBitTicks = u.tmrCmp) (hbitCnt : u.bitCnt.toNat = j)
    (hbits : HoldsBits D j u.shiftReg) :
    performAll (promptCells u.params D (j + 1) (n + 1)) u = .next { u with
      line := u.params.idleLevel, edgeFlag := false, edgeEn := true, rxState := .byteReady, bitCnt := 0
      shiftReg := D, rxByte := D, tmrEn := false, tmrCnt := 0, tmrCmp := u.params.bitTicks
      time := u.time + (n + 1) * u.params.bitTicks } := by
  induction n generalizing j u with
  | zero =>
    obtain rfl : j = 7 := by omega
    have hbits' := holdsBits_shiftIn hbits (by omega)
    rw [← sampleBit_cellLevel u.params D (by omega)] at hbits'
    have hcell := performAll_promptCell_last inv hstate hflag hcnt (cellLevel u.params D (7 + 1))
      (toNat_eq_seven_iff.1 hbitCnt)
    rw [eq_of_holdsBits_eight hbits'] at hcell
    have hline := perform_eq_effect (i := .line u.params.idleLevel) (runInvariant_performAll inv hcell) rfl (by simp)
    rw [promptCells_succ, performAll_append, hcell, andThen_next]
    change andThen (perform (.line u.params.idleLevel) _) _ = _
    rw [hline, andThen_next, performAll_nil]
    simp [effect, driveLine, startTransition, Params.idleLevel]
  | succ n ih =>
    have hbits' := holdsBits_shiftIn hbits (by omega)
    rw [← sampleBit_cellLevel u.params D (by omega)] at hbits'
    have hearly : u.bitCnt ≠ 7 := toNat_eq_seven_iff.not.1 (by omega)
    have hcell := performAll_promptCell_early inv hstate hflag hcnt (cellLevel u.params D (j + 1)) hearly
    rw [promptCells_succ, performAll_append, hcell, andThen_next]
    refine (ih (j + 1) (by omega) (runInvariant_performAll inv hcell) hstate hflag
      (Nat.sub_add_cancel (halfBitTicks_lt_bitTicks inv).1.le)
      ((toNat_add_one_of_ne_seven hearly).trans (congrArg (· + 1) hbitCnt)) hbits').trans ?_
    simp only [Host.Outcome.next.injEq, State.mk.injEq, true_and, and_true]
    rw [Nat.add_mul (n + 1), Nat.one_mul]
    omega

/-! ### The whole frame -/

/-- The start transition, its `EDGE` at once, and the start cell: the timer is half a bit short of its first match. -/
theorem performAll_promptStart {s : State} (hready : ReadyForFrame s) :
    performAll (.line s.params.startLevel :: .edge :: List.replicate s.params.bitTicks .adv) s = .next { s with
      line := s.params.startLevel, edgeFlag := false, edgeEn := false, tmrFlag := false, tmrEn := true, bitCnt := 0
      tmrCnt := s.params.bitTicks, tmrCmp := s.params.bitTicks + s.params.halfBitTicks, rxState := .receiving
      time := s.time + s.params.bitTicks, waited := 0 } := by
  have hhalf := halfBitTicks_lt_bitTicks hready.inv
  have hline : perform (.line s.params.startLevel) s = .next (driveLine s.params.startLevel s) :=
    perform_eq_effect hready.inv rfl (by simp)
  have hinvLine := runInvariant_perform hready.inv hline
  have hstrike : startTransition s.params s.line s.params.startLevel = true :=
    startTransition_eq_true_iff.2 ⟨hready.atIdle, rfl⟩
  have hedge := perform_eq_effect (i := .edge) hinvLine (by simp [enabled, hready.enabled, hstrike]) (by simp)
  have hinvEdge := runInvariant_perform hinvLine hedge
  rw [effect_edge_eq hinvLine.instantiated] at hedge hinvEdge
  rw [performAll_cons, hline, andThen_next, performAll_cons, hedge, andThen_next]
  refine (performAll_adv_of_counting s.params.bitTicks hinvEdge rfl rfl ?_).trans ?_
  · dsimp only [driveLine_params]
    omega
  · simp [driveLine]

/-- Settles O49: the start cell, then the eight cells one after the other; what the start wrote besides, the
completion and the last `LINE` put back. -/
theorem promptFrameIsDelivered : Obligations.PromptFrameIsDelivered := by
  unfold Obligations.PromptFrameIsDelivered
  intro s D hready
  have hstart := performAll_promptStart hready
  have hinv := runInvariant_performAll hready.inv hstart
  have hcells := performAll_promptCells D 7 0 rfl hinv rfl rfl rfl rfl (holdsBits_zero D _)
  have hoff := tmrEn_of_edgeEn hready.inv hready.enabled
  have hflag : s.tmrFlag = false := Bool.eq_false_iff.2 fun h => by simp [hready.inv.flagEnabled h] at hoff
  have hwaited := hready.inv.noneOwed (by simp [hready.clear, hoff])
  have hsplit : promptFrame s.params D =
      (.line s.params.startLevel :: .edge :: List.replicate s.params.bitTicks .adv) ++ promptCells s.params D 1 8 := rfl
  rw [hsplit, performAll_append, hstart, andThen_next]
  refine hcells.trans ?_
  simp only [hready.enabled, hready.clear, hready.atIdle, hoff, hflag, hwaited, Host.Outcome.next.injEq,
    State.mk.injEq, true_and, and_true]
  omega

end Sys2Proof.Proofs.PromptFrame
end
